-- ==== Sys2Proof/Word.lean ====
section
/-! DEFINITION. The word types of the NC-ADC block (`00_scope.md` R10, R14): widths the spec names more than once. -/

namespace Sys2Proof

/-- One byte of a bus slot (`40_transport.md` R121). -/
abbrev Byte := BitVec 8

/-- A 40-bit command word, presented whole (`30_encoding.md` R95). -/
abbrev CommandWord := BitVec 40

/-- A 7-bit device register address (`20_memory.md` R61). -/
abbrev RegAddr := BitVec 7

/-- A 24-bit write payload or raw sample (`00_scope.md` R7). -/
abbrev Payload := BitVec 24

/-- The 32-bit container of a register read (`00_scope.md` R7). -/
abbrev Container := BitVec 32

/-- An IEEE 754 binary32 value, held as its 32-bit pattern `bits(x)` (`00_scope.md` R14). -/
abbrev F32 := BitVec 32

end Sys2Proof
end

