-- ==== Sys2Proof/Syntax.lean ====
section
/-! DEFINITION. The instructions: one constructor per row of spec/opcode_table.json, with the operands of `30_encoding.md`
R97 at the width the command word gives them, and the two bus frames of R91 and R92. -/

namespace Sys2Proof

/-- The 15 operations of `30_encoding.md` R96 in the table's order, then the two frame patterns of the table. -/
inductive Instr where
  /-- RDREG: read a device register (`40_transport.md` R125) -/
  | rdreg (a : RegAddr)
  /-- WRREG: write a device register (`40_transport.md` R128) -/
  | wrreg (a : RegAddr) (v : Payload)
  /-- SELCH: select the input channel (`41_channel_primitives.md` R141) -/
  | selch (sel : BitVec 5)
  /-- START: start a conversion at a given rate (`41_channel_primitives.md` R145) -/
  | start (r : BitVec 8)
  /-- STOP: stop the conversion (`41_channel_primitives.md` R146) -/
  | stop
  /-- WAITRDY: wait for the end of the conversion (`41_channel_primitives.md` R150) -/
  | waitrdy
  /-- RDVOLT: read the data register and convert to volts (`41_channel_primitives.md` R158) -/
  | rdvolt
  /-- ACQ1: acquire one sample of one channel (`42_acquisition.md` R171) -/
  | acq1 (sel : BitVec 5)
  /-- ACQAVG: acquire `n` samples of one channel and average them (`42_acquisition.md` R175) -/
  | acqavg (sel : BitVec 5) (n : BitVec 16)
  /-- RDALL: one sample of each differential channel (`42_acquisition.md` R183) -/
  | rdall
  /-- RDALLAVG: average `n` samples of each differential channel (`42_acquisition.md` R188) -/
  | rdallavg (n : BitVec 16)
  /-- SETMODE: set the device's conversion mode (`43_config_system.md` R201) -/
  | setmode (m : BitVec 8)
  /-- SETRATE: set the data rate of later acquisitions (`43_config_system.md` R205) -/
  | setrate (r : BitVec 8)
  /-- CHKCOM: check the device's identity (`43_config_system.md` R209) -/
  | chkcom
  /-- RESET: the device reset this hardware does not have (`43_config_system.md` R212) -/
  | reset
  /-- FRAME.RD: the read frame `MemRead(a, 4)` (`40_transport.md` R122) -/
  | frameRd (a : RegAddr)
  /-- FRAME.WR: the write frame `MemWrite(a, 3, v)` (`40_transport.md` R126) -/
  | frameWr (a : RegAddr) (v : Payload)
deriving DecidableEq, Repr

/-- The operand formats of `30_encoding.md` R97. -/
inductive Format where
  | N
  | A
  | W
  | C
  | CN
  | K
  | R
  | M
deriving DecidableEq, Repr

/-- Why a command word or a frame is refused, in the order of `30_encoding.md` R108; every one has the same effect
(`60_exceptions.md` R228). -/
inductive Reject where
  /-- the opcode is not in the table (R100) -/
  | unknownOpcode
  /-- a reserved bit of the format is 1 (R99 a) -/
  | reservedBits
  /-- format C or CN with `s ≥ 18` (R99 b) -/
  | selectorRange
  /-- format CN or K with `n = 0` (R99 c) -/
  | zeroCount
  /-- format R with `r ≥ 16` (R99 d) -/
  | rateRange
  /-- format M with `m ≥ 3` (R99 e) -/
  | modeRange
  /-- bytes that are neither frame pattern of the opcode table (R91, R92) -/
  | notAFrame
deriving DecidableEq, Repr

/-- What is presented to the block: a command word at the command port, or the transmitted bytes of a bus frame, first
byte first. The two encodings of `30_encoding.md` R90 are independent and share number values (log 9). -/
inductive Encoded where
  | command (w : CommandWord)
  | frame (bytes : List Byte)
deriving DecidableEq, Repr

end Sys2Proof
end

