-- ==== Sys2Proof/WellFormed.lean ====
section
/-! DEFINITION. The operand constraints of `30_encoding.md` R99 (b) to (e), as one check. -/

namespace Sys2Proof

/-- A selector index names one of the 18 selectors (R101, R99 b). -/
abbrev selectorOk (sel : BitVec 5) : Bool := decide (sel.toNat < 18)

/-- A sample count is at least one (R99 c, `42_acquisition.md` R179). -/
abbrev countOk (n : BitVec 16) : Bool := decide (n ≠ 0#16)

/-- A rate byte is one of the 16 codes (R103, R99 d). -/
abbrev rateOk (r : BitVec 8) : Bool := decide (r.toNat < 16)

/-- A mode byte is one of the three modes (R102, R99 e). -/
abbrev modeOk (m : BitVec 8) : Bool := decide (m.toNat < 3)

/-- An instruction whose operands the decoder may have produced. -/
def Instr.wellFormed : Instr → Bool
  | .rdreg _ => true
  | .wrreg _ _ => true
  | .selch sel => selectorOk sel
  | .start r => rateOk r
  | .stop => true
  | .waitrdy => true
  | .rdvolt => true
  | .acq1 sel => selectorOk sel
  | .acqavg sel n => selectorOk sel && countOk n
  | .rdall => true
  | .rdallavg n => countOk n
  | .setmode m => modeOk m
  | .setrate r => rateOk r
  | .chkcom => true
  | .reset => true
  | .frameRd _ => true
  | .frameWr _ _ => true

end Sys2Proof
end

