-- ==== Sys2Proof/Decode.lean ====
section
/-! DEFINITION. The command decoder of `30_encoding.md` R108, the frame patterns of the opcode table, the encoder written
from the same tables, and the decoding of a table word. -/

namespace Sys2Proof

/-! ### Command words -/

/-- The opcode byte `w[39:32]` (R95). -/
def opcodeOf (w : CommandWord) : Byte := w.extractLsb' 32 8

/-- The operand field `w[31:0]` (R95). -/
def operandField (w : CommandWord) : BitVec 32 := w.extractLsb' 0 32

/-- The format of each opcode, or `none` for an opcode not in the table (R96, R100). -/
def formatOf (op : Byte) : Option Format :=
  match op.toNat with
  | 0x01 => some .A
  | 0x02 => some .W
  | 0x10 => some .C
  | 0x11 => some .R
  | 0x12 => some .N
  | 0x13 => some .N
  | 0x14 => some .N
  | 0x20 => some .C
  | 0x21 => some .CN
  | 0x22 => some .N
  | 0x23 => some .K
  | 0x30 => some .M
  | 0x31 => some .R
  | 0x32 => some .N
  | 0x33 => some .N
  | _ => none

/-- The reserved bits of each format (R108). -/
def reservedMask : Format → BitVec 32
  | .N => 0xFFFFFFFF#32
  | .A => 0x80FFFFFF#32
  | .W => 0x80000000#32
  | .C => 0xFFFFFFE0#32
  | .CN => 0xFFE00000#32
  | .K => 0xFFFF0000#32
  | .R => 0xFFFFFF00#32
  | .M => 0xFFFFFF00#32

/-! The operand fields of R97; each is an unsigned field copied from the word (R98). -/

/-- `a = w[30:24]`. -/
def fieldA (w : CommandWord) : RegAddr := w.extractLsb' 24 7

/-- `v = w[23:0]`. -/
def fieldV (w : CommandWord) : Payload := w.extractLsb' 0 24

/-- `s = w[4:0]` of format C. -/
def fieldS (w : CommandWord) : BitVec 5 := w.extractLsb' 0 5

/-- `s = w[20:16]` of format CN. -/
def fieldSCN (w : CommandWord) : BitVec 5 := w.extractLsb' 16 5

/-- `n = w[15:0]`. -/
def fieldN (w : CommandWord) : BitVec 16 := w.extractLsb' 0 16

/-- `r = w[7:0]` or `m = w[7:0]`. -/
def fieldB (w : CommandWord) : BitVec 8 := w.extractLsb' 0 8

/-- The value checks of R99 (b) to (e), in R108's order: the first that fails, if any. -/
def rangeError (f : Format) (w : CommandWord) : Option Reject :=
  match f with
  | .C => if selectorOk (fieldS w) then none else some .selectorRange
  | .CN =>
    if selectorOk (fieldSCN w) then
      if countOk (fieldN w) then none else some .zeroCount
    else some .selectorRange
  | .K => if countOk (fieldN w) then none else some .zeroCount
  | .R => if rateOk (fieldB w) then none else some .rateRange
  | .M => if modeOk (fieldB w) then none else some .modeRange
  | .N => none
  | .A => none
  | .W => none

/-- The operation an opcode of the table stands for, with its operands (R96, R97). -/
def operationOf (w : CommandWord) : Except Reject Instr :=
  match (opcodeOf w).toNat with
  | 0x01 => .ok (.rdreg (fieldA w))
  | 0x02 => .ok (.wrreg (fieldA w) (fieldV w))
  | 0x10 => .ok (.selch (fieldS w))
  | 0x11 => .ok (.start (fieldB w))
  | 0x12 => .ok .stop
  | 0x13 => .ok .waitrdy
  | 0x14 => .ok .rdvolt
  | 0x20 => .ok (.acq1 (fieldS w))
  | 0x21 => .ok (.acqavg (fieldSCN w) (fieldN w))
  | 0x22 => .ok .rdall
  | 0x23 => .ok (.rdallavg (fieldN w))
  | 0x30 => .ok (.setmode (fieldB w))
  | 0x31 => .ok (.setrate (fieldB w))
  | 0x32 => .ok .chkcom
  | 0x33 => .ok .reset
  | _ => .error .unknownOpcode

/-- Command decode, total on all 40-bit words (R108). -/
def decode (w : CommandWord) : Except Reject Instr :=
  match formatOf (opcodeOf w) with
  | none => .error .unknownOpcode
  | some f =>
    if operandField w &&& reservedMask f ≠ 0#32 then .error .reservedBits
    else
      match rangeError f w with
      | some e => .error e
      | none => operationOf w

/-! ### Bus frames

The frame patterns of the opcode table stand at the defaults it states, `READ_BIT = 0x01` and `FILL = 0x00`; the bytes the
machine puts on the bus are those of the configuration (`Machine/Operands.lean`, log 9). -/

/-- The bytes of a frame request, first transmitted byte first: `aaaaaaa1` and four fill bytes is a read frame,
`aaaaaaa0` and three payload bytes is a write frame (R91, R92). -/
def decodeFrame (bytes : List Byte) : Except Reject Instr :=
  match bytes with
  | [c, v2, v1, v0] =>
    if c.getLsbD 0 then .error .notAFrame else .ok (.frameWr (c.extractLsb' 1 7) (v2 ++ v1 ++ v0))
  | [c, f1, f2, f3, f4] =>
    if c.getLsbD 0 && (f1 ++ f2 ++ f3 ++ f4 == 0#32) then .ok (.frameRd (c.extractLsb' 1 7)) else .error .notAFrame
  | _ => .error .notAFrame

/-- Decoding of what is presented, at its own level (R90). -/
def decodeEncoded : Encoded → Except Reject Instr
  | .command w => decode w
  | .frame bytes => decodeFrame bytes

/-! ### The encoder -/

/-- A command word from its opcode and operand field (R95). -/
def commandWord (op : Byte) (field : BitVec 32) : Encoded := .command (op ++ field)

/-- The words of an instruction, from the tables of R96 and R97 and the frame patterns of R91 and R92. -/
def encode : Instr → Encoded
  | .rdreg a => commandWord 0x01#8 (0#1 ++ a ++ 0#24)
  | .wrreg a v => commandWord 0x02#8 (0#1 ++ a ++ v)
  | .selch sel => commandWord 0x10#8 (0#27 ++ sel)
  | .start r => commandWord 0x11#8 (0#24 ++ r)
  | .stop => commandWord 0x12#8 0#32
  | .waitrdy => commandWord 0x13#8 0#32
  | .rdvolt => commandWord 0x14#8 0#32
  | .acq1 sel => commandWord 0x20#8 (0#27 ++ sel)
  | .acqavg sel n => commandWord 0x21#8 (0#11 ++ sel ++ n)
  | .rdall => commandWord 0x22#8 0#32
  | .rdallavg n => commandWord 0x23#8 (0#16 ++ n)
  | .setmode m => commandWord 0x30#8 (0#24 ++ m)
  | .setrate r => commandWord 0x31#8 (0#24 ++ r)
  | .chkcom => commandWord 0x32#8 0#32
  | .reset => commandWord 0x33#8 0#32
  | .frameRd a => .frame [a ++ 1#1, 0#8, 0#8, 0#8, 0#8]
  | .frameWr a v => .frame [a ++ 0#1, v.extractLsb' 16 8, v.extractLsb' 8 8, v.extractLsb' 0 8]

/-! ### Words of the opcode table -/

/-- The four bytes of a 32-bit table word in transmission order, left to right (the table's `level` of FRAME.WR). -/
def frameBytes4 (x : BitVec 32) : List Byte :=
  [x.extractLsb' 24 8, x.extractLsb' 16 8, x.extractLsb' 8 8, x.extractLsb' 0 8]

/-- The five bytes of a 40-bit table word in transmission order (the table's `level` of FRAME.RD). -/
def frameBytes5 (x : BitVec 40) : List Byte :=
  [x.extractLsb' 32 8, x.extractLsb' 24 8, x.extractLsb' 16 8, x.extractLsb' 8 8, x.extractLsb' 0 8]

/-- At which level a word of the opcode table is presented. A 32-bit word is a write frame; any other word is taken as a
40-bit command word unless the command decoder refuses it and it has the read frame's pattern: the table's read frames
and command words share number values, and a value that is a command is the command (log 9). -/
def tableEncoded (nbits w : Nat) : Encoded :=
  if nbits = 32 then .frame (frameBytes4 (BitVec.ofNat 32 w))
  else
    match decode (BitVec.ofNat 40 w), decodeFrame (frameBytes5 (BitVec.ofNat 40 w)) with
    | .error _, .ok _ => .frame (frameBytes5 (BitVec.ofNat 40 w))
    | _, _ => .command (BitVec.ofNat 40 w)

/-- The instruction the decoder reads from a word of the opcode table, numbered as the table numbers it. -/
def decodeTableWord (nbits w : Nat) : Option Instr :=
  match decodeEncoded (tableEncoded nbits w) with
  | .ok i => some i
  | .error _ => none

end Sys2Proof
end

