-- ==== Sys2Proof/Config.lean ====
section
/-! DEFINITION. What an implementation fixes (the configuration record of `00_scope.md` R8), the constants of R7, and
the free values: the device oracle (`20_memory.md` R82), the choice between two waiting contexts (R77) and the values the
spec leaves to "any value" (`93_implementation_defined.md`). Every one of them is opaque: a theorem about the model holds
for every configuration and every oracle. -/

namespace Sys2Proof.Config

/-- Level of the ready line: low is asserted (`00_scope.md` R16, `90_conflicts.md` C2). -/
inductive Level where
  | low
  | high
deriving DecidableEq, Repr, Inhabited

/-- Parameter P14 (`00_scope.md` R8): whether a wait ends at a low sample, or only at a low sample after a high one. -/
inductive ReadySense where
  | level
  | edge
deriving DecidableEq, Repr, Inhabited

/-- The two host contexts of `60_exceptions.md` R236. -/
inductive Ctx where
  /-- the main loop -/
  | main
  /-- the timer-callback context -/
  | timer
deriving DecidableEq, Repr, Inhabited

/-- The device's answer to a read frame (`20_memory.md` R82): zero bytes transferred, or four response bytes in the order
received. -/
inductive ReadAnswer where
  | none
  | bytes (r0 r1 r2 r3 : Byte)
deriving DecidableEq, Repr, Inhabited

/-- The binary32 operations whose NaN results are free (log 13). -/
inductive FloatOp where
  | add
  | mul
  | div
deriving DecidableEq, Repr, Inhabited

/-- The configuration record `Cfg` of `00_scope.md` R8, parameters P1 to P16. A parameter with a constraint is held in a
form in which every value meets the constraint (log 1). -/
structure Cfg where
  /-- P1 `READ_BIT`, a mask with exactly one bit set: the position of that bit -/
  readBitPos : Fin 8
  /-- P2 address of the product-id register -/
  aProdid : RegAddr
  /-- P2 address of the channel-control register -/
  aChctrl : RegAddr
  /-- P2 address of the command register -/
  aCmd : RegAddr
  /-- P2 address of the status register; no operation uses it (`20_memory.md` R62) -/
  aStatus : RegAddr
  /-- P2 address of the data register -/
  aData : RegAddr
  /-- P2 address of the control register written by SETMODE -/
  aCtrl : RegAddr
  /-- P3 number of device registers; no rule depends on it -/
  nregs : Nat
  /-- P4 `FILL`, transmitted in the four response slots of a read frame -/
  fill : Byte
  /-- P5 `CHCODE`: the 16-bit channel code of each selector index. Indices 18 to 31 are refused before use (log 15). -/
  chcode : BitVec 5 → BitVec 16
  /-- P6 `TESTRES` -/
  testres : Byte
  /-- P7 `CMD_START`, 24 bits with bits [3:0] = 0: its bits [23:4] -/
  cmdStartHi : BitVec 20
  /-- P8 `CMD_STOP` -/
  cmdStop : Payload
  /-- P9 `SPS`, samples per second less one; no rule depends on it. R8 gives only the range, 1 to 23 040. That a rate is a
  WHOLE number of samples per second is the model's. Mark: DESIGN CHOICE, log 16. -/
  spsLess1 : BitVec 4 → Fin 23040
  /-- P10 `MODEWORD` of the modes 0, 1, 2; index 3 is refused before use (log 15) -/
  modeword : BitVec 2 → Payload
  /-- P11 `PRODID_MASK`, selecting one byte of the container: which byte, counted from the least significant -/
  prodidByte : Fin 4
  /-- P12 `PRODID_EXPECT`, zero outside the mask: the expected identity byte -/
  prodidIdentity : Byte
  /-- P13 `T_READY`, a positive integer or ∞: `some t` stands for the bound `t + 1`, `none` for ∞ -/
  tReadyLess1 : Option Nat
  /-- P14 `READY_SENSE` -/
  readySense : ReadySense
  /-- P15 `RATE_RST` -/
  rateRst : BitVec 4
  /-- P16 `VoltOfRaw`, a total function from a signed 24-bit integer to binary32 -/
  voltOfRaw : Int → F32
deriving Inhabited

/-- The configuration of the block, fixed before reset and never changed (`10_state.md` R52). Opaque: a claim about it is
a claim for every `Cfg` (`00_scope.md` R8). Log 1. -/
opaque cfg : Cfg

/-! Constants that the source fixes (`00_scope.md` R7). -/

/-- `FULL_SCALE`, 25 volts. -/
abbrev fullScale : F32 := 0x41C80000#32

/-- `DIVISOR`, the divisor of the voltage formula. -/
abbrev divisor : Int := 8388607

/-- `SENTINEL`, −1.0 volts. -/
abbrev sentinel : F32 := 0xBF800000#32

/-- `+0.0`, what an accumulator is cleared to (`42_acquisition.md` R177). -/
abbrev zeroVolt : F32 := 0#32

/-! The device oracle of `20_memory.md` R82, used where the scripted environment has run out (log 2). The argument is the
index of the draw. -/

/-- The device's answer to a read frame. -/
opaque busReadAnswer : Nat → ReadAnswer

/-- The device's answer to a write frame: `true` for success. -/
opaque busWriteAnswer : Nat → Bool

/-- The level of the ready line at a sample. -/
opaque readyLevel : Nat → Level

/-- Which context is served when both have a command waiting (`20_memory.md` R77, U12; log 7). -/
opaque arbiter : Nat → Ctx

/-! Free values. -/

/-- `RDATA` after a failed read frame: any 32-bit value, drawn at the step (`40_transport.md` R123, U1; log 3). -/
opaque failedReadData : Nat → Container

/-- `CONFIG` bits [5:4] while `MODEV = 0` (`10_state.md` R48, U13; log 5). -/
opaque unsetModeBits : Nat → BitVec 2

/-- Sign and payload of a NaN that a binary32 operation answers (log 13): sign in bit 22, payload in bits [21:0]. -/
opaque nanFill : FloatOp → F32 → F32 → BitVec 23

end Sys2Proof.Config
end

