-- ==== Sys2Proof/Machine/State.lean ====
section
/-! DEFINITION. The state of the NC-ADC block (`10_state.md` R20 to R53), the model's own inputs and outputs beside it, the
reasons a step can stop, and the state after reset. There is no memory field: no rule gives the block a byte of memory; the
device's registers belong to the device (R51, `20_memory.md` R60; log 18). -/

namespace Sys2Proof.Machine
open Sys2Proof Sys2Proof.Config

/-- `OP`, the latched command: opcode and decoded operands; operands a format does not have are zero (`10_state.md` R37). -/
structure Op where
  code : BitVec 8
  a : RegAddr
  v : Payload
  s : BitVec 5
  n : BitVec 16
  r : BitVec 8
  m : BitVec 8
deriving DecidableEq, Repr

/-- All fields zero, as after reset (R53). -/
def Op.zero : Op := { code := 0#8, a := 0#7, v := 0#24, s := 0#5, n := 0#16, r := 0#8, m := 0#8 }

/-- `ST`, the five status flags (`10_state.md` R35, `60_exceptions.md` R221). -/
structure Status where
  /-- at least one frame of the operation failed -/
  xfail : Bool
  /-- a ready wait gave up after `T_READY` samples -/
  timeout : Bool
  /-- the command was refused -/
  badop : Bool
  /-- the operation is RESET -/
  unsupported : Bool
  /-- CHKCOM read the product-id register and the identity byte did not match -/
  idmismatch : Bool
deriving DecidableEq, Repr

/-- No status flag set. -/
def Status.clear : Status :=
  { xfail := false, timeout := false, badop := false, unsupported := false, idmismatch := false }

/-- The response of a completion (`10_state.md` R45). -/
structure Resp where
  st : Status
  xok : Bool
  rdata : Container
  v : F32
  vok : Bool
  chkok : Bool
  vb : Vector F32 6
  bok : Vector Bool 6
deriving DecidableEq, Repr

/-- The observable events (`20_memory.md` R72, `40_transport.md` R121, `10_state.md` R45). -/
inductive Event where
  /-- `CSA`: chip-select asserted -/
  | csa
  /-- `SLOT(tx, rx)`: one byte out and one in; `none` is a received byte that is discarded -/
  | slot (tx : Byte) (rx : Option Byte)
  /-- `CSD`: chip-select released -/
  | csd
  /-- `POLL(l)`: the ready line sampled -/
  | poll (l : Level)
  /-- `Done(resp)` emitted to a context -/
  | done (ctx : Ctx) (resp : Resp)
deriving DecidableEq, Repr

/-- The environment: what the device will answer and which waiting context will be served. The scripts are consumed in order
(`20_memory.md` R82); where one has run out the answer is opaque (log 2, log 7). The MODEL's own, not block state (R52). -/
structure Env where
  /-- answers to the next read frames -/
  reads : List ReadAnswer
  /-- answers to the next write frames -/
  writes : List Bool
  /-- levels of the next ready samples -/
  ready : List Level
  /-- index of the next draw from the opaque oracle and the free values; every frame and every ready sample advances it -/
  draws : Nat
  /-- the next choices between two waiting contexts -/
  arb : List Ctx
  /-- index of the next draw from the opaque arbiter -/
  picks : Nat
deriving DecidableEq, Repr

/-- The command port: the words each host context still has to present, in program order. The head is the word presented; it
waits until it is accepted (`10_state.md` R43, `60_exceptions.md` R236). The MODEL's own input (log 6). -/
structure Port where
  main : List CommandWord
  timer : List CommandWord
deriving DecidableEq, Repr

/-- The state between two steps. -/
structure State where
  /-- `RDATA`, the container of the most recent read frame (R21) -/
  rdata : Container
  /-- `V`, the scalar voltage result (R23) -/
  v : F32
  /-- `VB[0..5]`, the batch results (R25) -/
  vb : Vector F32 6
  /-- `ACCS`, the accumulator of ACQAVG (R27) -/
  accs : F32
  /-- `ACC[0..5]`, the accumulators of RDALLAVG (R28) -/
  acc : Vector F32 6
  /-- `XOK`, the ok of the most recent frame (R22) -/
  xok : Bool
  /-- `VOK`, the ok of the most recent voltage result (R24) -/
  vok : Bool
  /-- `BOK[0..5]`, the `VOK` of each channel of the most recent batch (R26) -/
  bok : Vector Bool 6
  /-- `AOK`, the conjunction of the samples' `VOK` (R29) -/
  aok : Bool
  /-- `CHKOK`, the result of the most recent CHKCOM (R30) -/
  chkok : Bool
  /-- `RATE`, the data-rate code of the composite operations (R31) -/
  rate : BitVec 4
  /-- `MODE`, the shadow of the conversion mode (R32) -/
  mode : BitVec 2
  /-- `MODEV`, `MODE` has been written since reset (R32) -/
  modev : Bool
  /-- `CS`, the chip-select output (R34) -/
  cs : Bool
  /-- `CONV`, a start phase has been issued and no stop phase since (R33) -/
  conv : Bool
  /-- `ST` (R35) -/
  st : Status
  /-- `BUSY`, an operation is executing (R36) -/
  busy : Bool
  /-- `OP`, the latched command (R37) -/
  op : Op
  /-- `PH`, the next phase (R38, `42_acquisition.md` R191) -/
  ph : Fin 7
  /-- `K`, the batch channel in progress (R39) -/
  k : Fin 6
  /-- `S`, the samples accumulated for the current channel (R40) -/
  samples : BitVec 16
  /-- `P`, the ready samples taken in the current wait (R41) -/
  p : Nat
  /-- `SEENHI`, one of them read high (R41) -/
  seenhi : Bool
  /-- the MODEL's own: the context whose command was accepted last, the receiver of `Done` (R45; log 8) -/
  owner : Ctx
  /-- the MODEL's own: the command port (log 6) -/
  port : Port
  /-- the MODEL's own: the transmitted bytes of a frame asked of the register transport directly; no step fills it (log 9) -/
  xfer : Option (List Byte)
  /-- the MODEL's own: the environment (log 2) -/
  env : Env
  /-- the MODEL's own: the observable events so far, oldest first (log 8) -/
  trace : List Event
deriving DecidableEq, Repr

/-- Why the machine stops. No step of the block faults (`60_exceptions.md` R241): both reasons stand only in states that no
run from reset reaches, to which the spec gives no step (log 12). Safe: a run that stopped here would prove nothing. -/
inductive Fault where
  /-- Raised by `step`: `BUSY = 1` and `OP` is not what the acceptance of any operation latches. Safe. -/
  | badSequencer
  /-- Raised by the meaning of an operation: `BUSY = 1` and `PH` is not a phase of that operation (R191). Safe. -/
  | noSuchPhase
deriving DecidableEq, Repr

/-- Why an instruction is given no meaning. -/
inductive Refusal where
  /-- Raised by an arm of `exec` for an instruction that has no meaning yet; no arm does. Safe. -/
  | notModelled (mnemonic : String)
  /-- Raised by `step`: the frame asked of the transport is neither frame pattern of the opcode table. No run from reset
  fills `xfer` (log 9). Safe. -/
  | notAFrame
deriving DecidableEq, Repr

/-- Right after the power-on reset (`70_reset_and_hazards.md` R250, `10_state.md` R53). `RATE` is the open parameter
`RATE_RST`. What R53 leaves unspecified holds zero. Mark: DESIGN CHOICE, unsafe, log 4. The MODEL's own fields hold
nothing. Mark: DESIGN CHOICE, safe, log 21. -/
def State.reset : State where
  rdata := 0#32
  v := 0#32
  vb := Vector.replicate 6 0#32
  accs := 0#32
  acc := Vector.replicate 6 0#32
  xok := false
  vok := false
  bok := Vector.replicate 6 false
  aok := false
  chkok := false
  rate := cfg.rateRst
  mode := 0#2
  modev := false
  cs := false
  conv := false
  st := Status.clear
  busy := false
  op := Op.zero
  ph := 0
  k := 0
  samples := 0#16
  p := 0
  seenhi := false
  owner := .main
  port := { main := [], timer := [] }
  xfer := none
  env := { reads := [], writes := [], ready := [], draws := 0, arb := [], picks := 0 }
  trace := []

end Sys2Proof.Machine
end

