-- ==== Sys2Proof/Machine/Binary32.lean ====
section
/-! DEFINITION. Binary32 arithmetic, correctly rounded to nearest with ties to even (`00_scope.md` R14): the finite
operands are taken as exact numbers `±m · 2^e`, the exact result is formed, and it is rounded once. The semantics of binary32
is general knowledge by the spec's own words (R14, `93_implementation_defined.md` G1). Mark: PRESUMED, unsafe, log 14. -/

namespace Sys2Proof.Machine
open Sys2Proof Sys2Proof.Config

/-- What a binary32 pattern stands for: a NaN, an infinity, or the finite number `±m · 2^e`. -/
inductive FloatValue where
  | nan
  | inf (neg : Bool)
  | fin (neg : Bool) (m : Nat) (e : Int)
deriving DecidableEq, Repr

/-- The sign bit. -/
def f32Sign (x : F32) : Bool := x.getLsbD 31

/-- The exponent field, bits [30:23]. -/
def f32Exponent (x : F32) : Nat := (x.extractLsb' 23 8).toNat

/-- The fraction field, bits [22:0]. -/
def f32Fraction (x : F32) : Nat := (x.extractLsb' 0 23).toNat

/-- The value of a pattern. -/
def f32Value (x : F32) : FloatValue :=
  if f32Exponent x = 255 then
    if f32Fraction x = 0 then .inf (f32Sign x) else .nan
  else if f32Exponent x = 0 then .fin (f32Sign x) (f32Fraction x) (-149)
  else .fin (f32Sign x) (f32Fraction x + 2 ^ 23) ((f32Exponent x : Int) - 150)

/-- Negation changes the sign bit alone. -/
def f32Neg (x : F32) : F32 := x ^^^ 0x80000000#32

/-- A magnitude pattern under a sign. -/
def f32Signed (neg : Bool) (magnitude : Nat) : F32 :=
  if neg then f32Neg (BitVec.ofNat 32 magnitude) else BitVec.ofNat 32 magnitude

/-- Infinity. -/
def f32Inf (neg : Bool) : F32 := f32Signed neg 0x7F800000

/-- A quiet NaN whose sign and payload are free (log 13). -/
def f32NaN (op : FloatOp) (a b : F32) : F32 :=
  let x := nanFill op a b
  x.extractLsb' 22 1 ++ 0x1FF#9 ++ x.extractLsb' 0 22

/-- `m / 2^k` rounded to the nearest integer, ties to even. -/
def roundShift (m k : Nat) : Nat :=
  let q := m >>> k
  let r := m % 2 ^ k
  if 2 ^ k < 2 * r ∨ (2 * r = 2 ^ k ∧ q % 2 = 1) then q + 1 else q

/-- The exponent of the last kept bit of `m · 2^e`: 24 significant bits, and never below the subnormal range. -/
def lastPlace (m : Nat) (e : Int) : Int := max ((m.log2 : Int) + e - 23) (-149)

/-- `m · 2^e` in units of the last kept bit, rounded to nearest with ties to even. -/
def roundUnits (m : Nat) (e : Int) : Nat :=
  if lastPlace m e ≤ e then m <<< (e - lastPlace m e).toNat else roundShift m (lastPlace m e - e).toNat

/-- The magnitude pattern of `m · 2^e` for `m > 0`, rounded once; the exponent field counts last places from −149, and a
rounding that reaches the next power of two carries into it. A magnitude from 2^128 is infinity. -/
def roundMagnitude (m : Nat) (e : Int) : Nat :=
  min ((lastPlace m e + 149).toNat <<< 23 + roundUnits m e) 0x7F800000

/-- The binary32 nearest to `±m · 2^e`. -/
def roundF32 (neg : Bool) (m : Nat) (e : Int) : F32 :=
  if m = 0 then f32Signed neg 0 else f32Signed neg (roundMagnitude m e)

/-- A signed magnitude as an integer. -/
def signedNat (neg : Bool) (m : Nat) : Int := if neg then -(m : Int) else (m : Int)

/-- `f32_of_int(i)` (R14). -/
def f32OfInt (i : Int) : F32 := roundF32 (decide (i < 0)) i.natAbs 0

/-- The exact sum of two finite numbers, rounded once; an exact zero is `+0.0` unless both operands are negative. -/
def addFinite (na : Bool) (ma : Nat) (ea : Int) (nb : Bool) (mb : Nat) (eb : Int) : F32 :=
  let e := min ea eb
  let sum := signedNat na (ma <<< (ea - e).toNat) + signedNat nb (mb <<< (eb - e).toNat)
  roundF32 (if sum = 0 then na && nb else decide (sum < 0)) sum.natAbs e

/-- `a +f b` (R14). -/
def f32Add (a b : F32) : F32 :=
  match f32Value a, f32Value b with
  | .nan, _ => f32NaN .add a b
  | _, .nan => f32NaN .add a b
  | .inf na, .inf nb => if na = nb then f32Inf na else f32NaN .add a b
  | .inf na, .fin _ _ _ => f32Inf na
  | .fin _ _ _, .inf nb => f32Inf nb
  | .fin na ma ea, .fin nb mb eb => addFinite na ma ea nb mb eb

/-- `a *f b` (R14). -/
def f32Mul (a b : F32) : F32 :=
  match f32Value a, f32Value b with
  | .nan, _ => f32NaN .mul a b
  | _, .nan => f32NaN .mul a b
  | .inf na, .inf nb => f32Inf (na ^^ nb)
  | .inf na, .fin nb mb _ => if mb = 0 then f32NaN .mul a b else f32Inf (na ^^ nb)
  | .fin na ma _, .inf nb => if ma = 0 then f32NaN .mul a b else f32Inf (na ^^ nb)
  | .fin na ma ea, .fin nb mb eb => roundF32 (na ^^ nb) (ma * mb) (ea + eb)

/-- The quotient of two positive finite numbers, to 26 or more significant bits and one sticky bit that says whether a
remainder is left: enough for one correct rounding. -/
def quotientBits (ma mb : Nat) : Nat :=
  let q := (ma <<< 50) / mb
  2 * q + (if (ma <<< 50) % mb = 0 then 0 else 1)

/-- `a /f b` (R14). -/
def f32Div (a b : F32) : F32 :=
  match f32Value a, f32Value b with
  | .nan, _ => f32NaN .div a b
  | _, .nan => f32NaN .div a b
  | .inf _, .inf _ => f32NaN .div a b
  | .inf na, .fin nb _ _ => f32Inf (na ^^ nb)
  | .fin na _ _, .inf nb => f32Signed (na ^^ nb) 0
  | .fin na ma ea, .fin nb mb eb =>
    if mb = 0 then
      if ma = 0 then f32NaN .div a b else f32Inf (na ^^ nb)
    else roundF32 (na ^^ nb) (quotientBits ma mb) (ea - eb - 51)

end Sys2Proof.Machine
end

