-- ==== Sys2Proof/Machine/Voltage.lean ====
section
/-! DEFINITION. The two's-complement decode and the default voltage scaling (`41_channel_primitives.md` R159, R160), and
the example configuration of `00_scope.md` R9, which only tests and witnesses use. -/

namespace Sys2Proof.Machine
open Sys2Proof Sys2Proof.Config

/-- `raw = sext_32(RDATA[23:0])`; the top byte is ignored (R159, R162). -/
def rawSample (d : Container) : BitVec 32 := (d.extractLsb' 0 24).signExtend 32

/-- The default instance of parameter P16: divide, then multiply, each rounded once (R160). -/
def voltOfRawDefault (raw : Int) : F32 := f32Mul (f32Div (f32OfInt raw) (f32OfInt divisor)) fullScale

/-- The example configuration `CFG_EX` (`00_scope.md` R9): illustrative values, of no real device. The rate table, which R9
leaves out and no rule reads, holds 1 SPS throughout; `NREGS` holds 18, the source's "~18". -/
def cfgEx : Cfg where
  readBitPos := 0
  aProdid := 0x00#7
  aChctrl := 0x01#7
  aCmd := 0x02#7
  aStatus := 0x03#7
  aData := 0x04#7
  aCtrl := 0x05#7
  nregs := 18
  fill := 0x00#8
  chcode := fun sel => sel.setWidth 16 + 1#16
  testres := 0x11#8
  cmdStartHi := 0x00003#20
  cmdStop := 0x000010#24
  spsLess1 := fun _ => 0
  modeword := fun m => m.setWidth 24
  prodidByte := 0
  prodidIdentity := 0x5A#8
  tReadyLess1 := none
  readySense := .level
  rateRst := 0#4
  voltOfRaw := voltOfRawDefault

end Sys2Proof.Machine
end

