-- ==== Sys2Proof/Machine/Operands.lean ====
section
/-! DEFINITION. Operand forms: the parameters of `00_scope.md` R8 in the form the rules use, control bytes and payloads
(`30_encoding.md` R93, R94), the bytes of a container (R65), and the latched form of each operation (`10_state.md` R37). -/

namespace Sys2Proof.Machine
open Sys2Proof Sys2Proof.Config

/-! ### Parameters -/

/-- P1 `READ_BIT`, exactly one bit set. -/
def readBit (c : Cfg) : Byte := 1#8 <<< c.readBitPos.val

/-- P7 `CMD_START`, bits [3:0] zero. -/
def cmdStart (c : Cfg) : Payload := c.cmdStartHi ++ 0#4

/-- P9 `SPS`, from 1 to 23 040, in whole samples per second (DESIGN CHOICE, log 16). -/
def sps (c : Cfg) (r : BitVec 4) : Nat := (c.spsLess1 r).val + 1

/-- P11 `PRODID_MASK`, one byte of the container. -/
def prodidMask (c : Cfg) : Container := 0xFF#32 <<< (8 * c.prodidByte.val)

/-- P12 `PRODID_EXPECT`, zero outside the mask. -/
def prodidExpect (c : Cfg) : Container := c.prodidIdentity.setWidth 32 <<< (8 * c.prodidByte.val)

/-- P13 `T_READY`: `none` is ∞. -/
def tReady (c : Cfg) : Option Nat := c.tReadyLess1.map (· + 1)

/-! ### Control bytes and payloads -/

/-- `ctl_r(a)` (R93). -/
def ctlR (c : Cfg) (a : RegAddr) : Byte := (a.setWidth 8 <<< 1) ||| readBit c

/-- `ctl_w(a)` (R93). -/
def ctlW (c : Cfg) (a : RegAddr) : Byte := (a.setWidth 8 <<< 1) &&& ~~~readBit c

/-- `chword(s)`, the channel-control payload (R94, `41_channel_primitives.md` R142). -/
def chword (c : Cfg) (sel : BitVec 5) : Payload := ((c.chcode sel).setWidth 24 <<< 8) ||| c.testres.setWidth 24

/-- The start payload at a rate code (R94, `41_channel_primitives.md` R145). -/
def startWord (c : Cfg) (r : BitVec 4) : Payload := cmdStart c ||| r.setWidth 24

/-- The rate code of a rate byte, `r[3:0]` (R103). -/
def rateCode (r : BitVec 8) : BitVec 4 := r.extractLsb' 0 4

/-- The mode of a mode byte (R102). -/
def modeCode (m : BitVec 8) : BitVec 2 := m.extractLsb' 0 2

/-- The selector of a batch channel, `12 + K` (`42_acquisition.md` R185, R191). -/
def batchSelector (k : Fin 6) : BitVec 5 := BitVec.ofNat 5 (12 + k.val)

/-- The four bytes a write frame transmits (`40_transport.md` R126). -/
def writeBytes (c : Cfg) (a : RegAddr) (v : Payload) : List Byte :=
  [ctlW c a, v.extractLsb' 16 8, v.extractLsb' 8 8, v.extractLsb' 0 8]

/-! ### Device answers -/

/-- Whether an exchange transferred anything (`40_transport.md` R123, R132). -/
def answered : ReadAnswer → Bool
  | .none => false
  | .bytes _ _ _ _ => true

/-- The container of a read: the response bytes, first received most significant (`20_memory.md` R65, `40_transport.md` R124);
the free value if the read failed (R123). -/
def containerOf (free : Container) : ReadAnswer → Container
  | .none => free
  | .bytes r0 r1 r2 r3 => r0 ++ r1 ++ r2 ++ r3

/-- The slots of a read frame (`30_encoding.md` R91, `40_transport.md` R121): none if no byte was transferred. -/
def readSlots (c : Cfg) (a : RegAddr) : ReadAnswer → List Event
  | .none => []
  | .bytes r0 r1 r2 r3 =>
    [.slot (ctlR c a) none, .slot c.fill (some r0), .slot c.fill (some r1), .slot c.fill (some r2), .slot c.fill (some r3)]

/-- The slots of a write frame; every received byte is discarded (`30_encoding.md` R92, `40_transport.md` R121). -/
def writeSlots (c : Cfg) (a : RegAddr) (v : Payload) (ok : Bool) : List Event :=
  if ok then (writeBytes c a v).map (Event.slot · none) else []

/-! ### The latched command -/

/-- What acceptance latches in `OP` (`10_state.md` R37, opcodes of `30_encoding.md` R96). The two frames are no commands and
are never latched. -/
def latchedOp : Instr → Op
  | .rdreg a => { Op.zero with code := 0x01#8, a := a }
  | .wrreg a v => { Op.zero with code := 0x02#8, a := a, v := v }
  | .selch sel => { Op.zero with code := 0x10#8, s := sel }
  | .start r => { Op.zero with code := 0x11#8, r := r }
  | .stop => { Op.zero with code := 0x12#8 }
  | .waitrdy => { Op.zero with code := 0x13#8 }
  | .rdvolt => { Op.zero with code := 0x14#8 }
  | .acq1 sel => { Op.zero with code := 0x20#8, s := sel }
  | .acqavg sel n => { Op.zero with code := 0x21#8, s := sel, n := n }
  | .rdall => { Op.zero with code := 0x22#8 }
  | .rdallavg n => { Op.zero with code := 0x23#8, n := n }
  | .setmode m => { Op.zero with code := 0x30#8, m := m }
  | .setrate r => { Op.zero with code := 0x31#8, r := r }
  | .chkcom => { Op.zero with code := 0x32#8 }
  | .reset => { Op.zero with code := 0x33#8 }
  | .frameRd _ => Op.zero
  | .frameWr _ _ => Op.zero

/-- Whether acceptance latches the operation and leaves its phases to later steps: every operation but SETRATE and RESET,
which the acceptance step performs whole (`10_state.md` R43). -/
def isLatched : Instr → Bool
  | .rdreg _ => true
  | .wrreg _ _ => true
  | .selch _ => true
  | .start _ => true
  | .stop => true
  | .waitrdy => true
  | .rdvolt => true
  | .acq1 _ => true
  | .acqavg _ _ => true
  | .rdall => true
  | .rdallavg _ => true
  | .setmode _ => true
  | .setrate _ => false
  | .chkcom => true
  | .reset => false
  | .frameRd _ => false
  | .frameWr _ _ => false

/-- The operation an opcode names, with the operands `OP` holds. -/
def operationOfOp (o : Op) : Option Instr :=
  match o.code.toNat with
  | 0x01 => some (.rdreg o.a)
  | 0x02 => some (.wrreg o.a o.v)
  | 0x10 => some (.selch o.s)
  | 0x11 => some (.start o.r)
  | 0x12 => some .stop
  | 0x13 => some .waitrdy
  | 0x14 => some .rdvolt
  | 0x20 => some (.acq1 o.s)
  | 0x21 => some (.acqavg o.s o.n)
  | 0x22 => some .rdall
  | 0x23 => some (.rdallavg o.n)
  | 0x30 => some (.setmode o.m)
  | 0x32 => some .chkcom
  | _ => none

/-- The operation in progress, if `OP` is what its acceptance latched. -/
def latchedInstr (o : Op) : Option Instr :=
  match operationOfOp o with
  | some i => if i.wellFormed && decide (latchedOp i = o) then some i else none
  | none => none

end Sys2Proof.Machine
end

