-- ==== Sys2Proof/Machine/Flags.lean ====
section
/-! DEFINITION. Flag computations: the status bits (`60_exceptions.md` R221 to R226), the end condition of a ready wait
(`41_channel_primitives.md` R150 to R152), the identity check (`43_config_system.md` R209), and the host's view of the state
(`10_state.md` R45 to R49). -/

namespace Sys2Proof.Machine
open Sys2Proof Sys2Proof.Config

/-! ### Status bits -/

/-- A frame sets `XFAIL` when it failed and never clears it (R222). -/
def Status.noteFrame (st : Status) (ok : Bool) : Status := { st with xfail := st.xfail || !ok }

/-- `flag ST.TIMEOUT` (R223). -/
def Status.noteTimeout (st : Status) : Status := { st with timeout := true }

/-- `flag ST.IDMISMATCH` under a condition (R226). -/
def Status.noteIdentity (st : Status) (bad : Bool) : Status := { st with idmismatch := st.idmismatch || bad }

/-- `ST` of a refused command: exactly `BADOP` (R224). -/
def Status.refused : Status := { Status.clear with badop := true }

/-- `ST` of RESET: exactly `UNSUPPORTED` (R225). -/
def Status.unsupportedOnly : Status := { Status.clear with unsupported := true }

/-! ### Conditions -/

/-- How a ready sample leaves a wait phase. -/
inductive WaitResult where
  | stay
  | ready
  | timeout
deriving DecidableEq, Repr

/-- The end condition of a wait after a sample of level `l`, with `P` and `SEENHI` already updated (R150): the satisfying
sample is tested before the bound. -/
def waitResult (c : Cfg) (l : Level) (p : Nat) (seenhi : Bool) : WaitResult :=
  if l = .low ∧ (c.readySense = .level ∨ seenhi = true) then .ready
  else if tReady c = some p then .timeout
  else .stay

/-- The masked container is the expected identity (`43_config_system.md` R209). -/
def identityMatches (c : Cfg) (d : Container) : Bool := decide (d &&& prodidMask c = prodidExpect c)

/-! ### The host's view -/

/-- The response of a completion: the value, after the step, of the listed registers (R45). -/
def State.resp (s : State) : Resp :=
  { st := s.st, xok := s.xok, rdata := s.rdata, v := s.v, vok := s.vok, chkok := s.chkok, vb := s.vb, bok := s.bok }

/-- One flag as a bit. -/
abbrev bit (b : Bool) : BitVec 1 := BitVec.ofBool b

/-- The `STATUS` word (R47). -/
def statusWord (s : State) : BitVec 32 :=
  0#11 ++ bit s.st.idmismatch ++ bit s.st.unsupported ++ bit s.st.badop ++ bit s.st.timeout ++ bit s.st.xfail ++
    0#2 ++ bit s.bok[5] ++ bit s.bok[4] ++ bit s.bok[3] ++ bit s.bok[2] ++ bit s.bok[1] ++ bit s.bok[0] ++
    0#1 ++ bit s.aok ++ bit s.chkok ++ bit s.vok ++ bit s.xok ++ bit s.cs ++ bit s.conv ++ bit s.busy

/-- `MODE` as `CONFIG` shows it: unspecified while `MODEV = 0` (R48, U13; log 5). -/
def shownMode (s : State) : BitVec 2 := if s.modev then s.mode else unsetModeBits s.env.draws

/-- The `CONFIG` word (R48). -/
def configWord (s : State) : BitVec 32 := 0#25 ++ bit s.modev ++ shownMode s ++ s.rate

/-- The `SEQ` word (R46, index 17). -/
def seqWord (s : State) : BitVec 32 :=
  s.samples ++ 0#1 ++ BitVec.ofNat 3 s.k.val ++ BitVec.ofNat 4 s.ph.val ++ s.op.code

/-- The word a host inspection reads at an index; an index above 17 reads as zero (R46). It may be read between any two steps
and changes nothing (R49; log 24). -/
def inspect (s : State) (index : Nat) : BitVec 32 :=
  match index with
  | 0 => statusWord s
  | 1 => configWord s
  | 2 => s.rdata
  | 3 => s.v
  | 4 => s.vb[0]
  | 5 => s.vb[1]
  | 6 => s.vb[2]
  | 7 => s.vb[3]
  | 8 => s.vb[4]
  | 9 => s.vb[5]
  | 10 => s.accs
  | 11 => s.acc[0]
  | 12 => s.acc[1]
  | 13 => s.acc[2]
  | 14 => s.acc[3]
  | 15 => s.acc[4]
  | 16 => s.acc[5]
  | 17 => seqWord s
  | _ => 0#32

/-- The fields of a response that are an operation's result (R45); the others carry no meaning for it. -/
inductive OpResult where
  | container (value : Container) (ok : Bool)
  | frameOk (ok : Bool)
  | waited (timeout : Bool)
  | volts (value : F32) (ok : Bool)
  | batch (values : Vector F32 6) (ok : Vector Bool 6)
  | nothing
  | check (ok : Bool)
  | unsupported (flag : Bool)
deriving DecidableEq, Repr

/-- The result of an operation in its response (R45). -/
def resultOf (i : Instr) (r : Resp) : OpResult :=
  match i with
  | .rdreg _ => .container r.rdata r.xok
  | .wrreg _ _ => .frameOk r.xok
  | .selch _ => .frameOk r.xok
  | .start _ => .frameOk r.xok
  | .stop => .frameOk r.xok
  | .waitrdy => .waited r.st.timeout
  | .rdvolt => .volts r.v r.vok
  | .acq1 _ => .volts r.v r.vok
  | .acqavg _ _ => .volts r.v r.vok
  | .rdall => .batch r.vb r.bok
  | .rdallavg _ => .batch r.vb r.bok
  | .setmode _ => .frameOk r.xok
  | .setrate _ => .nothing
  | .chkcom => .check r.chkok
  | .reset => .unsupported r.st.unsupported
  | .frameRd _ => .container r.rdata r.xok
  | .frameWr _ _ => .frameOk r.xok

end Sys2Proof.Machine
end

