-- ==== Sys2Proof/Machine/Ops.lean ====
section
/-! DEFINITION. The shared operations: the environment's answers, the two frames, a ready sample, command acceptance and
completion, the phases, and what stands at the command port. The block takes no exception: a failure is reported by value
(`60_exceptions.md` R220, R229), by the operations `busRead`, `busWrite`, `flagTimeout` and `refuseCommand` here. -/

namespace Sys2Proof.Machine
open Sys2Proof Sys2Proof.Config

/-- The outcome of a step of this machine. -/
abbrev StepOutcome := Host.Outcome State Fault Refusal

/-! ### The environment (`20_memory.md` R82; log 2) -/

/-- The device's answer to the next read frame. -/
def Env.nextRead (e : Env) : ReadAnswer := e.reads.headD (busReadAnswer e.draws)

/-- The device's answer to the next write frame. -/
def Env.nextWrite (e : Env) : Bool := e.writes.headD (busWriteAnswer e.draws)

/-- The level of the next ready sample. -/
def Env.nextLevel (e : Env) : Level := e.ready.headD (readyLevel e.draws)

/-- One read answer consumed. -/
def Env.afterRead (e : Env) : Env := { e with reads := e.reads.tail, draws := e.draws + 1 }

/-- One write answer consumed. -/
def Env.afterWrite (e : Env) : Env := { e with writes := e.writes.tail, draws := e.draws + 1 }

/-- One ready sample consumed. -/
def Env.afterPoll (e : Env) : Env := { e with ready := e.ready.tail, draws := e.draws + 1 }

/-! ### Frames (`40_transport.md` R121 to R130) -/

/-- An observable event happens. -/
def State.emit (s : State) (e : Event) : State := { s with trace := s.trace ++ [e] }

/-- `CS <- 1`, event `CSA`. -/
def assertCs (s : State) : State := { s with cs := true, trace := s.trace ++ [.csa] }

/-- `CS <- 0`, event `CSD`. -/
def releaseCs (s : State) : State := { s with cs := false, trace := s.trace ++ [.csd] }

/-- The exchange of a read frame, with the update of `RDATA`, `XOK` and `ST.XFAIL` (R122, R123). -/
def busRead (c : Cfg) (a : RegAddr) (s : State) : State :=
  { s with
    rdata := containerOf (failedReadData s.env.draws) s.env.nextRead
    xok := answered s.env.nextRead
    st := s.st.noteFrame (answered s.env.nextRead)
    env := s.env.afterRead
    trace := s.trace ++ readSlots c a s.env.nextRead }

/-- The exchange of a write frame, with the update of `XOK` and `ST.XFAIL` (R126, R127). -/
def busWrite (c : Cfg) (a : RegAddr) (v : Payload) (s : State) : State :=
  { s with
    xok := s.env.nextWrite
    st := s.st.noteFrame s.env.nextWrite
    env := s.env.afterWrite
    trace := s.trace ++ writeSlots c a v s.env.nextWrite }

/-- `MemRead(a, 4)`, the read frame: one atomic step between chip-select assertion and release (R122, R129). -/
def memRead (c : Cfg) (a : RegAddr) (s : State) : State := releaseCs (busRead c a (assertCs s))

/-- `MemWrite(a, 3, v)`, the write frame (R126, R129). -/
def memWrite (c : Cfg) (a : RegAddr) (v : Payload) (s : State) : State := releaseCs (busWrite c a v (assertCs s))

/-! ### Ready polling (`41_channel_primitives.md` R150) -/

/-- A wait phase is entered: `P` and `SEENHI` are cleared (`10_state.md` R41; log 10). -/
def enterWait (s : State) : State := { s with p := 0, seenhi := false }

/-- One ready sample, with the update of `P` and `SEENHI`. -/
def pollSample (s : State) : State :=
  { s with
    p := s.p + 1
    seenhi := s.seenhi || decide (s.env.nextLevel = .high)
    env := s.env.afterPoll
    trace := s.trace ++ [.poll s.env.nextLevel] }

/-- How the sample that is taken in state `s` leaves the wait. -/
def pollResult (c : Cfg) (s : State) : WaitResult :=
  waitResult c s.env.nextLevel (pollSample s).p (pollSample s).seenhi

/-- `flag ST.TIMEOUT` (R152). -/
def flagTimeout (s : State) : State := { s with st := s.st.noteTimeout }

/-- A poll step: what follows a sample that does not end the wait, a satisfying one, and a timeout. -/
def pollStep (c : Cfg) (ready timeout : State → State) (s : State) : State :=
  match pollResult c s with
  | .stay => pollSample s
  | .ready => ready (pollSample s)
  | .timeout => timeout (flagTimeout (pollSample s))

/-! ### Acceptance and completion (`10_state.md` R43, R45) -/

/-- `Done(resp)` goes to the context that issued the command. -/
def emitDone (s : State) : State := s.emit (.done s.owner s.resp)

/-- The sequencer returns to idle (R42). -/
def toIdle (s : State) : State := { s with busy := false, ph := 0, k := 0, samples := 0#16 }

/-- The step that ends an operation (R45). -/
def complete (s : State) : State := emitDone (toIdle s)

/-- Acceptance of an operation with phases: `ST` cleared, `OP` latched, the sequencer at phase 0 (R43). -/
def latchCommand (i : Instr) (s : State) : State :=
  { s with st := Status.clear, op := latchedOp i, busy := true, ph := 0, k := 0, samples := 0#16 }

/-- `raise Refuse(BADOP)`: nothing but `ST` changes and the completion is emitted (R43, `60_exceptions.md` R224). -/
def refuseCommand (s : State) : State := emitDone { s with st := Status.refused }

/-- One micro-step toward a latched operation (R44): in the idle block its acceptance, or its refusal if an operand is out of
range (R99); in a block that is executing it, its next phase; in a block that is executing another, none: the command waits
at the port (R43, U10; log 11). -/
def runOperation (i : Instr) (accepted : State → State) (phase : State → StepOutcome) (s : State) : StepOutcome :=
  if s.busy then
    if i.wellFormed && decide (s.op = latchedOp i) then phase s else .next s
  else if i.wellFormed then .next (accepted (latchCommand i s))
  else .next (refuseCommand s)

/-- One micro-step toward an operation that the acceptance step performs whole (R43: SETRATE, RESET). -/
def runImmediate (i : Instr) (effect : State → State) (s : State) : StepOutcome :=
  if s.busy then .next s
  else if i.wellFormed then .next (emitDone (effect s))
  else .next (refuseCommand s)

/-- The phases of a primitive operation: the single phase 0, which completes (`10_state.md` R38). -/
def onePhase (act : State → State) (s : State) : StepOutcome :=
  if s.ph = 0 then .next (complete (act s)) else .fault .noSuchPhase

/-! ### Phases (`41_channel_primitives.md`) -/

/-- `SelectPhase(s)` (R141). -/
def selectPhase (c : Cfg) (sel : BitVec 5) (s : State) : State := memWrite c c.aChctrl (chword c sel) s

/-- `StartPhase(r)`: `CONV <- 1`, also when the frame failed (R145, `10_state.md` R33). -/
def startPhase (c : Cfg) (r : BitVec 4) (s : State) : State := { memWrite c c.aCmd (startWord c r) s with conv := true }

/-- `StopPhase()`: `CONV <- 0`, also when the frame failed (R146, `10_state.md` R33). -/
def stopPhase (c : Cfg) (s : State) : State := { memWrite c c.aCmd c.cmdStop s with conv := false }

/-- The voltage of the container just read (R159, R160), or the sentinel if the read failed (R161). -/
def decodedVolts (c : Cfg) (s : State) : F32 := if s.xok then c.voltOfRaw (rawSample s.rdata).toInt else sentinel

/-- `V` and `VOK` from the data read (R158). -/
def takeVolts (c : Cfg) (s : State) : State := { s with v := decodedVolts c s, vok := s.xok }

/-- `ReadVoltPhase()` (R158). -/
def readVoltPhase (c : Cfg) (s : State) : State := takeVolts c (memRead c c.aData s)

/-! ### The command port (`10_state.md` R43, `20_memory.md` R77; log 6, log 7) -/

/-- Whose command is accepted when both contexts have one waiting: the script, then the opaque arbiter. -/
def Env.nextPick (e : Env) : Ctx := e.arb.headD (arbiter e.picks)

/-- One choice made. -/
def Env.afterPick (e : Env) : Env := { e with arb := e.arb.tail, picks := e.picks + 1 }

/-- The main context's word leaves the port. -/
def takeMain (s : State) : State := { s with owner := .main, port := { s.port with main := s.port.main.tail } }

/-- The timer context's word leaves the port. -/
def takeTimer (s : State) : State := { s with owner := .timer, port := { s.port with timer := s.port.timer.tail } }

/-- The word that is accepted next and the state in which it is accepted, or `none` if no context presents one. -/
def takeCommand (s : State) : Option (CommandWord × State) :=
  match s.port.main, s.port.timer with
  | [], [] => none
  | w :: _, [] => some (w, takeMain s)
  | [], w :: _ => some (w, takeTimer s)
  | w :: _, w' :: _ =>
    match s.env.nextPick with
    | .main => some (w, takeMain { s with env := s.env.afterPick })
    | .timer => some (w', takeTimer { s with env := s.env.afterPick })

/-! ### Placing an instruction for the next step (log 6, log 9) -/

/-- A command word presented to an idle block by the main context, and no other context waiting. -/
def placeCommand (w : CommandWord) (s : State) : State :=
  { s with busy := false, xfer := none, port := { main := w :: s.port.main, timer := [] } }

/-- A frame asked of the transport of an idle block. -/
def placeFrame (bytes : List Byte) (s : State) : State := { s with busy := false, xfer := some bytes }

/-- What is presented, placed for the next step. -/
def placeEncoded (e : Encoded) (s : State) : State :=
  match e with
  | .command w => placeCommand w s
  | .frame bytes => placeFrame bytes s

/-- The state in which the frame asked of the transport is performed. -/
def takeFrame (s : State) : State := { s with xfer := none }

end Sys2Proof.Machine
end

