-- ==== Sys2Proof/Machine/Acquisition.lean ====
section
/-! DEFINITION. The acquisition operations: the phase table of `42_acquisition.md` R191, once, and ACQ1, ACQAVG, RDALL,
RDALLAVG over it. -/

namespace Sys2Proof.Machine
open Sys2Proof Sys2Proof.Config

/-- Which of the four composite operations runs: one channel or the batch of six, single samples or an average of `n`. -/
structure Acq where
  /-- RDALL, RDALLAVG -/
  batch : Bool
  /-- ACQAVG, RDALLAVG -/
  averaged : Bool
  /-- the selector of ACQ1, ACQAVG -/
  sel : BitVec 5
  /-- the sample count of ACQAVG, RDALLAVG -/
  n : BitVec 16
deriving DecidableEq, Repr

/-- `s` of the phase table: the operand, or `12 + K` in a batch. -/
def acqSelector (q : Acq) (s : State) : BitVec 5 := if q.batch then batchSelector s.k else q.sel

/-- `A` of the phase table: `ACCS`, or `ACC[K]` in a batch. -/
def accumulator (q : Acq) (s : State) : F32 := if q.batch then s.acc[s.k] else s.accs

/-- `A <- x`. -/
def setAccumulator (q : Acq) (x : F32) (s : State) : State :=
  if q.batch then { s with acc := s.acc.set s.k x } else { s with accs := x }

/-- The accumulator part of the select phase of an averaged operation: `A <- +0.0 ; AOK <- 1 ; S <- 0`. -/
def clearAverage (q : Acq) (s : State) : State :=
  if q.averaged then { setAccumulator q zeroVolt s with aok := true, samples := 0#16 } else s

/-- `A <- A +f V ; AOK <- AOK & VOK ; S <- S + 1` (R177, R178). -/
def accumulate (q : Acq) (s : State) : State :=
  { setAccumulator q (f32Add (accumulator q s) s.v) s with aok := s.aok && s.vok, samples := s.samples + 1#16 }

/-- `VB[K] <- V ; BOK[K] <- VOK`. -/
def storeChannel (s : State) : State := { s with vb := s.vb.set s.k s.v, bok := s.bok.set s.k s.vok }

/-- The next channel of the batch: `K <- K + 1 ; S <- 0 ; PH <- 0`. -/
def nextChannel (s : State) : State := { s with k := s.k + 1, samples := 0#16, ph := 0 }

/-- `EndOfChannel` (R191). -/
def endOfChannel (q : Acq) (s : State) : State :=
  if q.batch then
    if s.k.val < 5 then nextChannel (storeChannel s) else complete (storeChannel s)
  else complete s

/-- After a sample of an averaged operation: back to the start phase while `S < n`, else the finish phase (R176). -/
def nextSample (q : Acq) (s : State) : State := { s with ph := if s.samples < q.n then 1 else 6 }

/-- `EndOfSample` (R191). -/
def endOfSample (q : Acq) (s : State) : State :=
  if q.averaged then nextSample q (accumulate q s) else endOfChannel q s

/-- `V <- SENTINEL ; VOK <- 0` (R190). -/
def takeSentinel (s : State) : State := { s with v := sentinel, vok := false }

/-- `V <- A /f f32_of_int(n) ; VOK <- AOK`. -/
def takeAverage (q : Acq) (s : State) : State :=
  { s with v := f32Div (accumulator q s) (f32OfInt q.n.toNat), vok := s.aok }

/-- `PH <- n`. -/
def goto (n : Fin 7) (s : State) : State := { s with ph := n }

/-- The phase table: one step of the phase `PH` (R191). -/
def acqPhase (c : Cfg) (q : Acq) (s : State) : StepOutcome :=
  match s.ph with
  | 0 => .next (goto 1 (clearAverage q (selectPhase c (acqSelector q s) s)))
  | 1 => .next (goto 2 (enterWait (startPhase c s.rate s)))
  | 2 => .next (pollStep c (goto 3) (goto 5) s)
  | 3 => .next (goto 4 (stopPhase c s))
  | 4 => .next (endOfSample q (readVoltPhase c s))
  | 5 => .next (endOfSample q (takeSentinel (stopPhase c s)))
  | 6 => if q.averaged then .next (endOfChannel q (takeAverage q s)) else .fault .noSuchPhase

/-- What ACQ1 runs. -/
def acq1Of (sel : BitVec 5) : Acq := { batch := false, averaged := false, sel := sel, n := 0#16 }

/-- What ACQAVG runs. -/
def acqavgOf (sel : BitVec 5) (n : BitVec 16) : Acq := { batch := false, averaged := true, sel := sel, n := n }

/-- What RDALL runs. -/
def rdallOf : Acq := { batch := true, averaged := false, sel := 0#5, n := 0#16 }

/-- What RDALLAVG runs. -/
def rdallavgOf (n : BitVec 16) : Acq := { batch := true, averaged := true, sel := 0#5, n := n }

/-- ACQ1 s (R171). -/
def acq1With (c : Cfg) (sel : BitVec 5) (s : State) : StepOutcome :=
  runOperation (.acq1 sel) id (acqPhase c (acq1Of sel)) s

def execAcq1 (sel : BitVec 5) (s : State) : StepOutcome := acq1With cfg sel s

/-- ACQAVG s, n (R175). -/
def acqavgWith (c : Cfg) (sel : BitVec 5) (n : BitVec 16) (s : State) : StepOutcome :=
  runOperation (.acqavg sel n) id (acqPhase c (acqavgOf sel n)) s

def execAcqavg (sel : BitVec 5) (n : BitVec 16) (s : State) : StepOutcome := acqavgWith cfg sel n s

/-- RDALL (R183). -/
def rdallWith (c : Cfg) (s : State) : StepOutcome := runOperation .rdall id (acqPhase c rdallOf) s

def execRdall (s : State) : StepOutcome := rdallWith cfg s

/-- RDALLAVG n (R188). -/
def rdallavgWith (c : Cfg) (n : BitVec 16) (s : State) : StepOutcome :=
  runOperation (.rdallavg n) id (acqPhase c (rdallavgOf n)) s

def execRdallavg (n : BitVec 16) (s : State) : StepOutcome := rdallavgWith cfg n s

end Sys2Proof.Machine
end

