-- ==== Sys2Proof/Machine/Channel.lean ====
section
/-! DEFINITION. The channel-driver primitives: SELCH, START, STOP, WAITRDY, RDVOLT (`41_channel_primitives.md`). -/

namespace Sys2Proof.Machine
open Sys2Proof Sys2Proof.Config

/-- SELCH s (R141). -/
def selchWith (c : Cfg) (sel : BitVec 5) (s : State) : StepOutcome :=
  runOperation (.selch sel) id (onePhase (selectPhase c sel)) s

def execSelch (sel : BitVec 5) (s : State) : StepOutcome := selchWith cfg sel s

/-- START r (R145): the rate is the operand's; `RATE` is neither read nor written. -/
def startWith (c : Cfg) (r : BitVec 8) (s : State) : StepOutcome :=
  runOperation (.start r) id (onePhase (startPhase c (rateCode r))) s

def execStart (r : BitVec 8) (s : State) : StepOutcome := startWith cfg r s

/-- STOP (R146). -/
def stopWith (c : Cfg) (s : State) : StepOutcome := runOperation .stop id (onePhase (stopPhase c)) s

def execStop (s : State) : StepOutcome := stopWith cfg s

/-- The wait phase of the stand-alone WAITRDY, phase 0: it completes on a satisfying sample and on a timeout (R150, R152). -/
def waitrdyPhase (c : Cfg) (s : State) : StepOutcome :=
  if s.ph = 0 then .next (pollStep c complete complete s) else .fault .noSuchPhase

/-- WAITRDY (R150): the wait phase is entered at acceptance (log 10). -/
def waitrdyWith (c : Cfg) (s : State) : StepOutcome := runOperation .waitrdy enterWait (waitrdyPhase c) s

def execWaitrdy (s : State) : StepOutcome := waitrdyWith cfg s

/-- RDVOLT (R158). -/
def rdvoltWith (c : Cfg) (s : State) : StepOutcome := runOperation .rdvolt id (onePhase (readVoltPhase c)) s

def execRdvolt (s : State) : StepOutcome := rdvoltWith cfg s

end Sys2Proof.Machine
end

