-- ==== Sys2Proof/Machine/System.lean ====
section
/-! DEFINITION. The configuration and system operations: SETMODE, SETRATE, CHKCOM, RESET (`43_config_system.md`). -/

namespace Sys2Proof.Machine
open Sys2Proof Sys2Proof.Config

/-- The `MODE` shadow after SETMODE's frame: updated only if the write succeeded (R201, R202). -/
def noteMode (m : BitVec 2) (s : State) : State :=
  { s with mode := if s.xok then m else s.mode, modev := s.modev || s.xok }

/-- SETMODE's frame step (R201). -/
def setmodePhase (c : Cfg) (m : BitVec 8) (s : State) : State :=
  noteMode (modeCode m) (memWrite c c.aCtrl (c.modeword (modeCode m)) s)

/-- SETMODE m (R201). -/
def setmodeWith (c : Cfg) (m : BitVec 8) (s : State) : StepOutcome :=
  runOperation (.setmode m) id (onePhase (setmodePhase c m)) s

def execSetmode (m : BitVec 8) (s : State) : StepOutcome := setmodeWith cfg m s

/-- SETRATE's whole effect: `ST` cleared at acceptance, `RATE <- r[3:0]`. -/
def setrateEffect (r : BitVec 8) (s : State) : State := { s with st := Status.clear, rate := rateCode r }

/-- SETRATE r (R205). -/
def execSetrate (r : BitVec 8) (s : State) : StepOutcome := runImmediate (.setrate r) (setrateEffect r) s

/-- `CHKOK` and `ST.IDMISMATCH` from the product-id read: both the transfer and the identity are required (R209). -/
def noteIdentityCheck (c : Cfg) (s : State) : State :=
  { s with
    chkok := s.xok && identityMatches c s.rdata
    st := s.st.noteIdentity (s.xok && !identityMatches c s.rdata) }

/-- CHKCOM's frame step (R209). -/
def chkcomPhase (c : Cfg) (s : State) : State := noteIdentityCheck c (memRead c c.aProdid s)

/-- CHKCOM (R209). -/
def chkcomWith (c : Cfg) (s : State) : StepOutcome := runOperation .chkcom id (onePhase (chkcomPhase c)) s

def execChkcom (s : State) : StepOutcome := chkcomWith cfg s

/-- RESET's whole effect: `ST.UNSUPPORTED` and nothing else (R212). -/
def resetEffect (s : State) : State := { s with st := Status.unsupportedOnly }

/-- RESET (R212): not the block's own reset (`70_reset_and_hazards.md` R253). -/
def execReset (s : State) : StepOutcome := runImmediate .reset resetEffect s

end Sys2Proof.Machine
end

