-- ==== Sys2Proof/Machine/Transport.lean ====
section
/-! DEFINITION. The register transport: RDREG, WRREG and the two frames (`40_transport.md`). Each meaning stands over an
explicit configuration first (`…With`), then at the block's own. -/

namespace Sys2Proof.Machine
open Sys2Proof Sys2Proof.Config

/-- RDREG a (R125). -/
def rdregWith (c : Cfg) (a : RegAddr) (s : State) : StepOutcome :=
  runOperation (.rdreg a) id (onePhase (memRead c a)) s

def execRdreg (a : RegAddr) (s : State) : StepOutcome := rdregWith cfg a s

/-- WRREG a, v (R128): `CONV` and the `MODE` shadow do not change, whatever the address. -/
def wrregWith (c : Cfg) (a : RegAddr) (v : Payload) (s : State) : StepOutcome :=
  runOperation (.wrreg a v) id (onePhase (memWrite c a v)) s

def execWrreg (a : RegAddr) (v : Payload) (s : State) : StepOutcome := wrregWith cfg a v s

/-- FRAME.RD, `MemRead(a, 4)` alone (R122). -/
def execFrameRd (a : RegAddr) (s : State) : StepOutcome := .next (memRead cfg a s)

/-- FRAME.WR, `MemWrite(a, 3, v)` alone (R126). -/
def execFrameWr (a : RegAddr) (v : Payload) (s : State) : StepOutcome := .next (memWrite cfg a v s)

end Sys2Proof.Machine
end

