-- ==== Sys2Proof/Machine/Dispatch.lean ====
section
/-! DEFINITION. One arm per instruction: the next micro-step toward it (`10_state.md` R44; log 11). -/

namespace Sys2Proof.Machine
open Sys2Proof

def exec (i : Instr) (s : State) : Host.Outcome State Fault Refusal :=
  match i with
  | .rdreg a => Sys2Proof.Machine.execRdreg a s
  | .wrreg a v => Sys2Proof.Machine.execWrreg a v s
  | .selch sel => Sys2Proof.Machine.execSelch sel s
  | .start r => Sys2Proof.Machine.execStart r s
  | .stop => Sys2Proof.Machine.execStop s
  | .waitrdy => Sys2Proof.Machine.execWaitrdy s
  | .rdvolt => Sys2Proof.Machine.execRdvolt s
  | .acq1 sel => Sys2Proof.Machine.execAcq1 sel s
  | .acqavg sel n => Sys2Proof.Machine.execAcqavg sel n s
  | .rdall => Sys2Proof.Machine.execRdall s
  | .rdallavg n => Sys2Proof.Machine.execRdallavg n s
  | .setmode m => Sys2Proof.Machine.execSetmode m s
  | .setrate r => Sys2Proof.Machine.execSetrate r s
  | .chkcom => Sys2Proof.Machine.execChkcom s
  | .reset => Sys2Proof.Machine.execReset s
  | .frameRd a => Sys2Proof.Machine.execFrameRd a s
  | .frameWr a v => Sys2Proof.Machine.execFrameWr a v s

end Sys2Proof.Machine
end

