-- ==== Sys2Proof/Machine/Step.lean ====
section
/-! DEFINITION. One micro-step of the block (`10_state.md` R44), and where a single instruction is placed to be run next. -/

namespace Sys2Proof.Machine
open Sys2Proof

/-- One micro-step. A busy block performs the next phase of the operation latched in `OP`. An idle block performs the frame
asked of its transport, if one is (log 9); else it accepts the next command, performing or refusing it by R43; else it waits,
unchanged (`60_exceptions.md` R239). -/
def step (s : State) : Host.Outcome State Fault Refusal :=
  if s.busy then
    match latchedInstr s.op with
    | some i => exec i s
    | none => .fault .badSequencer
  else
    match s.xfer with
    | some bytes =>
      match decodeFrame bytes with
      | .ok i => exec i (takeFrame s)
      | .error _ => .refused .notAFrame
    | none =>
      match takeCommand s with
      | none => .next s
      | some (w, s') =>
        match decode w with
        | .ok i => exec i s'
        | .error _ => .next (refuseCommand s')

/-- The state with one instruction of the opcode table presented, so that the next step runs it: a command word at the
command port of an idle block, a frame at its transport (log 6, log 9). -/
def State.withFetchWord (s : State) (nbits w : Nat) : State := placeEncoded (tableEncoded nbits w) s

end Sys2Proof.Machine
end

