-- ==== Sys2Proof/Safety.lean ====
section
/-! DEFINITION. What counts as a safe run, in the terms claims use: the states a run from reset stays in, when a run is over
(`70_reset_and_hazards.md` R271), and the premises about the device and the host a claim may state (`20_memory.md` R77, R82). -/

namespace Sys2Proof.Safety
open Sys2Proof Sys2Proof.Machine Sys2Proof.Config

/-- The step answers a next state: what every step of the block does (`60_exceptions.md` R241). -/
def Runs (o : Host.Outcome State Fault Refusal) : Prop := ∃ t, o = .next t

/-- `ST` as R228 allows it: `BADOP` and `UNSUPPORTED` exclude all others, `IDMISMATCH` excludes the frame causes, and
`TIMEOUT` is set only under a finite `T_READY` (R223). -/
def StatusLegal (st : Status) : Prop :=
  (st.badop = true → st = Status.refused) ∧
  (st.unsupported = true → st = Status.unsupportedOnly) ∧
  (st.idmismatch = true → st.xfail = false ∧ st.timeout = false) ∧
  (st.timeout = true → tReady cfg ≠ none)

/-- In a wait phase the bound has not been reached (`41_channel_primitives.md` R150). -/
def WaitOpen (s : State) : Prop := ∀ t, tReady cfg = some t → s.p < t

/-- A primitive operation between its acceptance and its completion: phase 0, nothing flagged yet (`10_state.md` R38). -/
def PrimitivePhase (s : State) : Prop := s.ph = 0 ∧ s.k = 0 ∧ s.samples = 0#16 ∧ s.st = Status.clear

/-- `S` while a cycle runs: below `n` in an averaged operation, 0 otherwise (`10_state.md` R40). -/
def CycleOpen (q : Acq) (s : State) : Prop :=
  if q.averaged then s.samples.toNat < q.n.toNat else s.samples = 0#16

/-- A composite operation at each phase of `42_acquisition.md` R191: the counters in range, and `CONV` set exactly from the
start phase to the stop phase (R170, `41_channel_primitives.md` R147). -/
def CompositePhase (q : Acq) (s : State) : Prop :=
  (q.batch = false → s.k = 0) ∧
  s.st.badop = false ∧ s.st.unsupported = false ∧ s.st.idmismatch = false ∧
  match s.ph with
  | 0 => s.samples = 0#16 ∧ (s.k ≠ 0 → s.conv = false)
  | 1 => CycleOpen q s
  | 2 => CycleOpen q s ∧ s.conv = true ∧ WaitOpen s
  | 3 => CycleOpen q s ∧ s.conv = true
  | 4 => CycleOpen q s ∧ s.conv = false
  | 5 => CycleOpen q s ∧ s.conv = true ∧ s.st.timeout = true
  | 6 => q.averaged = true ∧ s.samples = q.n ∧ s.conv = false

/-- Where a latched operation may stand. SETRATE and RESET are never latched, the frames are no commands. -/
def PhaseLegal (i : Instr) (s : State) : Prop :=
  match i with
  | .rdreg _ => PrimitivePhase s
  | .wrreg _ _ => PrimitivePhase s
  | .selch _ => PrimitivePhase s
  | .start _ => PrimitivePhase s
  | .stop => PrimitivePhase s
  | .waitrdy => PrimitivePhase s ∧ WaitOpen s
  | .rdvolt => PrimitivePhase s
  | .acq1 sel => CompositePhase (acq1Of sel) s
  | .acqavg sel n => CompositePhase (acqavgOf sel n) s
  | .rdall => CompositePhase rdallOf s
  | .rdallavg n => CompositePhase (rdallavgOf n) s
  | .setmode _ => PrimitivePhase s
  | .setrate _ => False
  | .chkcom => PrimitivePhase s
  | .reset => False
  | .frameRd _ => False
  | .frameWr _ _ => False

/-- What holds between any two steps of a run from reset. -/
structure RunInv (s : State) : Prop where
  /-- chip-select is released between steps (`10_state.md` R34) -/
  released : s.cs = false
  /-- nothing but `withFetchWord` asks the transport for a frame (log 9) -/
  noFrameAsked : s.xfer = none
  /-- `ST` is as R228 allows -/
  status : StatusLegal s.st
  /-- an idle sequencer stands at zero (`10_state.md` R42) -/
  idle : s.busy = false → s.ph = 0 ∧ s.k = 0 ∧ s.samples = 0#16
  /-- a busy sequencer stands at a phase of the operation it latched (`42_acquisition.md` R191) -/
  running : s.busy = true → ∃ i, latchedInstr s.op = some i ∧ PhaseLegal i s

/-- The run is over: every command accepted and completed, and the block idle (R271). It says nothing about the device. -/
def Over (s : State) : Prop := s.busy = false ∧ s.port.main = [] ∧ s.port.timer = []

/-- A context's command waits at the port (`10_state.md` R43, U10). -/
def Waiting (x : Ctx) (s : State) : Prop :=
  match x with
  | .main => s.port.main ≠ []
  | .timer => s.port.timer ≠ []

/-- Premise: the arbiter is fair, each context is chosen again and again where both wait (`20_memory.md` R77). -/
def FairArbiter : Prop := ∀ x n, ∃ m, n ≤ m ∧ arbiter m = x

/-- Premise: every frame of the oracle succeeds (`20_memory.md` R82). -/
def FramesSucceed : Prop := ∀ n, answered (busReadAnswer n) = true ∧ busWriteAnswer n = true

/-- Premise: the ready line reads low again and again (`20_memory.md` R82, `41_channel_primitives.md` R153). -/
def ReadyRecurs : Prop := ∀ n, ∃ m, n ≤ m ∧ readyLevel m = .low

end Sys2Proof.Safety
end

