-- ==== Sys2Proof/Certificates/Slice0/Obligations.lean ====
section
/-! DEFINITION. The statements for the provers. The first part names what several statements share, written from the rules
and not from the model's operations: the events of a frame, a completed step, the end of a channel. -/

namespace Sys2Proof.Statements
open Sys2Proof Sys2Proof.Machine Sys2Proof.Config

/-- The block executes the operation `i` (`10_state.md` R36, R37). -/
def Running (i : Instr) (s : State) : Prop := i.wellFormed = true ∧ s.busy = true ∧ s.op = latchedOp i

/-- An operation of `30_encoding.md` R96, not one of the two frames. -/
def IsCommand (i : Instr) : Prop := ∃ w, encode i = .command w

/-- A successful read frame at address `a` (`40_transport.md` R121). -/
def readEvents (a : RegAddr) (r0 r1 r2 r3 : Byte) : List Event :=
  [.csa, .slot (ctlR cfg a) none, .slot cfg.fill (some r0), .slot cfg.fill (some r1), .slot cfg.fill (some r2),
    .slot cfg.fill (some r3), .csd]

/-- A successful write frame (`40_transport.md` R121). -/
def writeEvents (a : RegAddr) (v : Payload) : List Event :=
  [.csa, .slot (ctlW cfg a) none, .slot (v.extractLsb' 16 8) none, .slot (v.extractLsb' 8 8) none,
    .slot (v.extractLsb' 0 8) none, .csd]

/-- A failed frame of either kind (`40_transport.md` R121). -/
def failedEvents : List Event := [.csa, .csd]

/-- After a write frame of `v` to `a`: `XOK` is the device's answer, a failure sets `XFAIL`, and nothing else changes
(`40_transport.md` R126, R127). -/
def afterWrite (a : RegAddr) (v : Payload) (s : State) : State :=
  { s with
    cs := false
    xok := s.env.nextWrite
    st := { s.st with xfail := s.st.xfail || !s.env.nextWrite }
    env := s.env.afterWrite
    trace := s.trace ++ (if s.env.nextWrite then writeEvents a v else failedEvents) }

/-- After a read frame at `a` that answered four bytes (`40_transport.md` R122, R124). -/
def afterRead (a : RegAddr) (r0 r1 r2 r3 : Byte) (s : State) : State :=
  { s with
    cs := false, rdata := r0 ++ r1 ++ r2 ++ r3, xok := true, env := s.env.afterRead
    trace := s.trace ++ readEvents a r0 r1 r2 r3 }

/-- After a failed read frame: `RDATA` holds the free value `d` (`40_transport.md` R123). -/
def afterFailedRead (d : Container) (s : State) : State :=
  { s with
    cs := false, rdata := d, xok := false, st := { s.st with xfail := true }, env := s.env.afterRead
    trace := s.trace ++ failedEvents }

/-- After a ready sample (`41_channel_primitives.md` R150). -/
def afterPoll (s : State) : State :=
  { s with
    p := s.p + 1
    seenhi := s.seenhi || decide (s.env.nextLevel = .high)
    env := s.env.afterPoll
    trace := s.trace ++ [.poll s.env.nextLevel] }

/-- The sample taken in `s` satisfies the wait (`41_channel_primitives.md` R150). -/
def SampleReady (s : State) : Prop := s.env.nextLevel = .low ∧ (cfg.readySense = .level ∨ s.seenhi = true)

/-- The wait gives up with the sample taken in `s` (`41_channel_primitives.md` R150, R152). -/
def SampleTimeout (s : State) : Prop := ¬ SampleReady s ∧ tReady cfg = some (s.p + 1)

/-- The step that ends an operation: the sequencer at rest, and the response of the resulting state to the issuing context
(`10_state.md` R42, R45). -/
def ended (s : State) : State :=
  { s with
    busy := false, ph := 0, k := 0, samples := 0#16
    trace := s.trace ++
      [.done s.owner
        { st := s.st, xok := s.xok, rdata := s.rdata, v := s.v, vok := s.vok, chkok := s.chkok, vb := s.vb, bok := s.bok }] }

/-- Context `x` presents `w` in `s` and it is the word accepted next: the only one, or the chosen one of two. `u` is the state
in which it is accepted: the word has left the port and `x` is the owner of the response (`10_state.md` R43, R45,
`20_memory.md` R77; the port's lists are the model's, log 6 and log 7). -/
def Presented (x : Ctx) (w : CommandWord) (s u : State) : Prop :=
  match x with
  | .main =>
    ∃ ws, s.port.main = w :: ws ∧
      ((s.port.timer = [] ∧ u = { s with owner := .main, port := { main := ws, timer := [] } }) ∨
        (s.port.timer ≠ [] ∧ s.env.nextPick = .main ∧
          u = { s with owner := .main, port := { main := ws, timer := s.port.timer }, env := s.env.afterPick }))
  | .timer =>
    ∃ ws, s.port.timer = w :: ws ∧
      ((s.port.main = [] ∧ u = { s with owner := .timer, port := { main := [], timer := ws } }) ∨
        (s.port.main ≠ [] ∧ s.env.nextPick = .timer ∧
          u = { s with owner := .timer, port := { main := s.port.main, timer := ws }, env := s.env.afterPick }))

/-- The configuration of a composite operation (`42_acquisition.md` R191). -/
def compositeOf : Instr → Option Acq
  | .rdreg _ => none
  | .wrreg _ _ => none
  | .selch _ => none
  | .start _ => none
  | .stop => none
  | .waitrdy => none
  | .rdvolt => none
  | .acq1 sel => some { batch := false, averaged := false, sel := sel, n := 0#16 }
  | .acqavg sel n => some { batch := false, averaged := true, sel := sel, n := n }
  | .rdall => some { batch := true, averaged := false, sel := 0#5, n := 0#16 }
  | .rdallavg n => some { batch := true, averaged := true, sel := 0#5, n := n }
  | .setmode _ => none
  | .setrate _ => none
  | .chkcom => none
  | .reset => none
  | .frameRd _ => none
  | .frameWr _ _ => none

/-- `s` of the phase table (`42_acquisition.md` R191). -/
def channelOf (q : Acq) (s : State) : BitVec 5 := if q.batch then BitVec.ofNat 5 (12 + s.k.val) else q.sel

/-- `EndOfChannel` of `42_acquisition.md` R191. -/
def channelEnd (q : Acq) (s : State) : State :=
  if q.batch then
    if s.k.val < 5 then
      { s with vb := s.vb.set s.k s.v, bok := s.bok.set s.k s.vok, k := s.k + 1, samples := 0#16, ph := 0 }
    else ended { s with vb := s.vb.set s.k s.v, bok := s.bok.set s.k s.vok }
  else ended s

/-- `A` of the phase table. -/
def accumulatorOf (q : Acq) (s : State) : F32 := if q.batch then s.acc[s.k] else s.accs

/-- `EndOfSample` of `42_acquisition.md` R191. -/
def sampleEnd (q : Acq) (s : State) : State :=
  if q.averaged then
    { s with
      accs := if q.batch then s.accs else f32Add s.accs s.v
      acc := if q.batch then s.acc.set s.k (f32Add s.acc[s.k] s.v) else s.acc
      aok := s.aok && s.vok
      samples := s.samples + 1#16
      ph := if s.samples + 1#16 < q.n then 1 else 6 }
  else channelEnd q s

/-- The opcodes of `30_encoding.md` R96. -/
def opcodes : List Byte :=
  [0x01#8, 0x02#8, 0x10#8, 0x11#8, 0x12#8, 0x13#8, 0x14#8, 0x20#8, 0x21#8, 0x22#8, 0x23#8, 0x30#8, 0x31#8, 0x32#8, 0x33#8]

/-- A word that `30_encoding.md` R99 and R100 refuse, said by the slices of the word. -/
def RefusedWord (w : CommandWord) : Prop :=
  let op := w.extractLsb' 32 8
  op ∉ opcodes ∨
  (op ∈ [0x12#8, 0x13#8, 0x14#8, 0x22#8, 0x32#8, 0x33#8] ∧ w.extractLsb' 0 32 ≠ 0#32) ∨
  (op = 0x01#8 ∧ (w.extractLsb' 31 1 ≠ 0#1 ∨ w.extractLsb' 0 24 ≠ 0#24)) ∨
  (op = 0x02#8 ∧ w.extractLsb' 31 1 ≠ 0#1) ∨
  (op ∈ [0x10#8, 0x20#8] ∧ (w.extractLsb' 5 27 ≠ 0#27 ∨ 18 ≤ (w.extractLsb' 0 5).toNat)) ∨
  (op = 0x21#8 ∧ (w.extractLsb' 21 11 ≠ 0#11 ∨ 18 ≤ (w.extractLsb' 16 5).toNat ∨ w.extractLsb' 0 16 = 0#16)) ∨
  (op = 0x23#8 ∧ (w.extractLsb' 16 16 ≠ 0#16 ∨ w.extractLsb' 0 16 = 0#16)) ∨
  (op ∈ [0x11#8, 0x31#8] ∧ (w.extractLsb' 8 24 ≠ 0#24 ∨ 16 ≤ (w.extractLsb' 0 8).toNat)) ∨
  (op = 0x30#8 ∧ (w.extractLsb' 8 24 ≠ 0#24 ∨ 3 ≤ (w.extractLsb' 0 8).toNat))

/-- The bus events of one frame: nothing, or exactly the slots of one exchange, between `CSA` and `CSD`. -/
def WholeFrame (evs : List Event) : Prop :=
  evs = failedEvents ∨ (∃ a r0 r1 r2 r3, evs = readEvents a r0 r1 r2 r3) ∨ (∃ a v, evs = writeEvents a v)

/-- The events of one step: nothing, one whole frame or one poll; then at most one completion. -/
def StepEvents (evs : List Event) : Prop :=
  ∃ bus fin, evs = bus ++ fin ∧ (bus = [] ∨ WholeFrame bus ∨ ∃ l, bus = [.poll l]) ∧ (fin = [] ∨ ∃ x r, fin = [.done x r])

/-- `f` applied `m` times to a state, stopping where it does not answer a next state. -/
def steps (f : State → StepOutcome) : Nat → State → StepOutcome
  | 0, s => .next s
  | m + 1, s =>
    match f s with
    | .next t => steps f m t
    | .fault r => .fault r
    | .refused r => .refused r

/-- The same state, executing the primitive `i` (`30_encoding.md` R107). -/
def asPrimitive (i : Instr) (s : State) : State := { s with op := latchedOp i, busy := true, ph := 0 }

/-- The results R107 compares, and the environment consumed. -/
def SameResults (t u : State) : Prop :=
  u.rdata = t.rdata ∧ u.xok = t.xok ∧ u.v = t.v ∧ u.vok = t.vok ∧ u.conv = t.conv ∧ u.env = t.env

/-- The sum of `n` failed samples (`42_acquisition.md` R178). -/
def sentinelSum : Nat → F32
  | 0 => zeroVolt
  | n + 1 => f32Add (sentinelSum n) sentinel

/-- The number of acquisition cycles of a composite operation. -/
def cycles (q : Acq) : Nat := (if q.batch then 6 else 1) * (if q.averaged then q.n.toNat else 1)

/-! The columns of `10_state.md` R50: the operations that write each register. A frame writes what a frame writes. -/

/-- Operations with a read frame: they write `RDATA`. -/
def writesRdata : Instr → Bool
  | .rdreg _ => true
  | .wrreg _ _ => false
  | .selch _ => false
  | .start _ => false
  | .stop => false
  | .waitrdy => false
  | .rdvolt => true
  | .acq1 _ => true
  | .acqavg _ _ => true
  | .rdall => true
  | .rdallavg _ => true
  | .setmode _ => false
  | .setrate _ => false
  | .chkcom => true
  | .reset => false
  | .frameRd _ => true
  | .frameWr _ _ => false

/-- Operations with a frame: they write `XOK`. -/
def writesXok : Instr → Bool
  | .rdreg _ => true
  | .wrreg _ _ => true
  | .selch _ => true
  | .start _ => true
  | .stop => true
  | .waitrdy => false
  | .rdvolt => true
  | .acq1 _ => true
  | .acqavg _ _ => true
  | .rdall => true
  | .rdallavg _ => true
  | .setmode _ => true
  | .setrate _ => false
  | .chkcom => true
  | .reset => false
  | .frameRd _ => true
  | .frameWr _ _ => true

/-- The composite operations. -/
def isComposite (i : Instr) : Bool := (compositeOf i).isSome

/-- The result and configuration registers of R50 that `i` does not list are unchanged from `s` to `t`. -/
def WritesOnlyItsColumn (i : Instr) (s t : State) : Prop :=
  (writesRdata i = false → t.rdata = s.rdata) ∧
  (writesXok i = false → t.xok = s.xok) ∧
  (isComposite i = false → i ≠ .rdvolt → t.v = s.v ∧ t.vok = s.vok) ∧
  (isComposite i = false → i ≠ .stop → (∀ r, i ≠ .start r) → t.conv = s.conv) ∧
  (isComposite i = false → i ≠ .waitrdy → t.p = s.p ∧ t.seenhi = s.seenhi) ∧
  ((∀ sel n, i ≠ .acqavg sel n) → t.accs = s.accs) ∧
  ((∀ n, i ≠ .rdallavg n) → t.acc = s.acc) ∧
  ((∀ sel n, i ≠ .acqavg sel n) → (∀ n, i ≠ .rdallavg n) → t.aok = s.aok) ∧
  (i ≠ .rdall → (∀ n, i ≠ .rdallavg n) → t.vb = s.vb ∧ t.bok = s.bok) ∧
  (i ≠ .chkcom → t.chkok = s.chkok) ∧
  ((∀ r, i ≠ .setrate r) → t.rate = s.rate) ∧
  ((∀ m, i ≠ .setmode m) → t.mode = s.mode ∧ t.modev = s.modev)

end Sys2Proof.Statements

open Sys2Proof Sys2Proof.Machine Sys2Proof.Config Sys2Proof.Safety Sys2Proof.Statements

/-! ### Encoding -/

/-- Every well-formed instruction is decoded from its own words, with every operand (`30_encoding.md` R96, R97, R108; frames
at the table's default `READ_BIT` and `FILL`, log 9). -/
def Obligations.DecodeOfEncode : Prop :=
  ∀ i : Instr, i.wellFormed = true → decodeEncoded (encode i) = .ok i

/-- Every command word that decodes has one meaning, well formed, and is that meaning's word (`30_encoding.md` R97, R108). -/
def Obligations.EncodeOfDecode : Prop :=
  ∀ (w : CommandWord) (i : Instr), decode w = .ok i → i.wellFormed = true ∧ encode i = .command w

/-- The decoder refuses exactly the words of `30_encoding.md` R99 and R100. -/
def Obligations.DecodeRefusesExactly : Prop :=
  ∀ w : CommandWord, (∃ e, decode w = .error e) ↔ RefusedWord w

/-- Sample words of `95_test_vectors.md` V-DEC-1, one per operation. -/
def Obligations.SampleWordsDecode : Prop :=
  decode 0x0104000000#40 = .ok (.rdreg 0x04#7) ∧ decode 0x0202000037#40 = .ok (.wrreg 0x02#7 0x000037#24) ∧
  decode 0x100000000E#40 = .ok (.selch 14#5) ∧ decode 0x1100000007#40 = .ok (.start 7#8) ∧
  decode 0x1200000000#40 = .ok .stop ∧ decode 0x1300000000#40 = .ok .waitrdy ∧ decode 0x1400000000#40 = .ok .rdvolt ∧
  decode 0x200000000E#40 = .ok (.acq1 14#5) ∧ decode 0x21000C0003#40 = .ok (.acqavg 12#5 3#16) ∧
  decode 0x2200000000#40 = .ok .rdall ∧ decode 0x2300000002#40 = .ok (.rdallavg 2#16) ∧
  decode 0x3000000002#40 = .ok (.setmode 2#8) ∧ decode 0x3100000007#40 = .ok (.setrate 7#8) ∧
  decode 0x3200000000#40 = .ok .chkcom ∧ decode 0x3300000000#40 = .ok .reset

/-- The words of the opcode table decode to their rows: each command word as a 40-bit number, each write frame as the
32-bit number of its bytes in transmission order, and each read frame as the 40-bit number of its bytes where that number is
no command the decoder accepts (`30_encoding.md` R91, R92, R95). How frames are presented, and that a shared number is the
command, is the model's choice, log 9. -/
def Obligations.TableWordsDecode : Prop :=
  (∀ (i : Instr) (w : CommandWord), i.wellFormed = true → encode i = .command w → decodeTableWord 40 w.toNat = some i) ∧
  (∀ (a : RegAddr) (v : Payload), decodeTableWord 32 (a ++ 0#1 ++ v).toNat = some (.frameWr a v)) ∧
  (∀ (a : RegAddr) (e : Reject), decode ((a ++ 1#1) ++ 0#32) = .error e →
    decodeTableWord 40 ((a ++ 1#1) ++ 0#32).toNat = some (.frameRd a))

/-- The control bytes: bit `j + 1` is address bit `j`, bit 0 is 0, but for the read bit, set in a read's and clear in a
write's; with `READ_BIT = 0x01` they are `2a + 1` and `2a` (`30_encoding.md` R93). -/
def Obligations.ControlBytes : Prop :=
  ∀ (c : Cfg) (a : RegAddr),
    (∀ j, j < 8 → (ctlR c a).getLsbD j = (decide (j = c.readBitPos.val) || (a ++ 0#1).getLsbD j)) ∧
    (∀ j, j < 8 → (ctlW c a).getLsbD j = (decide (j ≠ c.readBitPos.val) && (a ++ 0#1).getLsbD j)) ∧
    (c.readBitPos = 0 → (ctlR c a).toNat = 2 * a.toNat + 1 ∧ (ctlW c a).toNat = 2 * a.toNat)

/-! ### The sequencer and the command port -/

/-- An idle block with no frame asked of its transport runs the instruction decoded from the word that is accepted next
(`10_state.md` R43, `20_memory.md` R77; the port's lists are the model's, log 6 and log 7). -/
def Obligations.StepRunsDecodedCommand : Prop :=
  ∀ (x : Ctx) (w : CommandWord) (i : Instr) (s u : State),
    s.busy = false → s.xfer = none → Presented x w s u → decode w = .ok i → step s = exec i u

/-- A busy block runs the next phase of the operation its acceptance latched, and the port and the owner of the response do
not change: a command presented while `BUSY = 1` waits (`10_state.md` R42, R43). -/
def Obligations.StepRunsLatchedOperation : Prop :=
  ∀ (s : State) (i : Instr), isLatched i = true → Running i s →
    step s = exec i s ∧ ∀ t, step s = .next t → t.port = s.port ∧ t.owner = s.owner

/-- An idle block asked for a frame directly performs exactly that frame (the model's way of running a frame row alone,
log 9). -/
def Obligations.StepRunsAskedFrame : Prop :=
  ∀ (s : State) (bytes : List Byte) (i : Instr),
    s.busy = false → s.xfer = some bytes → decodeFrame bytes = .ok i → step s = exec i { s with xfer := none }

/-- An idle block that is presented nothing holds all its state (`60_exceptions.md` R239). -/
def Obligations.IdleBlockHoldsState : Prop :=
  ∀ s : State, s.busy = false → s.xfer = none → s.port.main = [] → s.port.timer = [] → step s = .next s

/-- Acceptance of an operation with phases clears `ST`, latches `OP`, sets `BUSY` and puts the sequencer at phase 0, and
changes nothing else; WAITRDY also clears `P` and `SEENHI`, because its wait phase is entered (`10_state.md` R41, R43). Where
that clearing stands is the model's reading, log 10. -/
def Obligations.AcceptanceLatches : Prop :=
  ∀ (i : Instr) (s : State), isLatched i = true → i.wellFormed = true → s.busy = false →
    exec i s = .next
      { s with
        st := { xfail := false, timeout := false, badop := false, unsupported := false, idmismatch := false }
        op := latchedOp i, busy := true, ph := 0, k := 0, samples := 0#16
        p := if i = .waitrdy then 0 else s.p
        seenhi := if i = .waitrdy then false else s.seenhi }

/-- A refused word, whichever context presents it: `ST` becomes exactly `BADOP`, the completion is emitted to that context in
the same step, and nothing else changes but what stands at the port (`30_encoding.md` R99, R100, `60_exceptions.md` R224). -/
def Obligations.RefusedWordSetsBadopOnly : Prop :=
  ∀ (x : Ctx) (w : CommandWord) (s u : State),
    s.busy = false → s.xfer = none → Presented x w s u → RefusedWord w →
    step s = .next
      { u with
        st := { xfail := false, timeout := false, badop := true, unsupported := false, idmismatch := false }
        trace := s.trace ++
          [.done x
            { st := { xfail := false, timeout := false, badop := true, unsupported := false, idmismatch := false }
              xok := s.xok, rdata := s.rdata, v := s.v, vok := s.vok, chkok := s.chkok, vb := s.vb, bok := s.bok }] }

/-- `exec` of an instruction term whose operand is out of range refuses it at acceptance as R99 refuses its word. This is the
model's inference, log 25: R99 (b to e) refuses the WORD at decode, so `step` never gives `exec` such a term. -/
def Obligations.IllFormedOperandRefused : Prop :=
  ∀ (i : Instr) (s : State), i.wellFormed = false → s.busy = false →
    ∃ t, exec i s = .next t ∧ t.st = Status.refused ∧ t.trace = s.trace ++ [.done s.owner t.resp] ∧
      { t with st := s.st, trace := s.trace } = s

/-- `exec` of a command that is not the operation in progress answers the same state while `BUSY = 1`. The step to itself is
the model's choice, log 11: the spec says that the command waits at the port and has no enabled step (`10_state.md` R43, U10). -/
def Obligations.BusyBlockAcceptsNothing : Prop :=
  ∀ (i : Instr) (s : State), IsCommand i → s.busy = true → (isLatched i = true → s.op ≠ latchedOp i) → exec i s = .next s

/-! ### The register transport -/

/-- RDREG: the container is the four response bytes, first received most significant, `XOK` the success of the exchange; on
failure `XFAIL` is set and `RDATA` holds a free value; the operation completes either way and changes nothing else
(`40_transport.md` R122, R123, R124, R125). -/
def Obligations.RdregReads : Prop :=
  ∀ (a : RegAddr) (s : State), Running (.rdreg a) s → s.ph = 0 →
    (∀ r0 r1 r2 r3, s.env.nextRead = .bytes r0 r1 r2 r3 →
      exec (.rdreg a) s = .next (ended (afterRead a r0 r1 r2 r3 s))) ∧
    (s.env.nextRead = .none →
      exec (.rdreg a) s = .next (ended (afterFailedRead (failedReadData s.env.draws) s)))

/-- WRREG: the four bytes of the write frame, `XOK` the device's answer, and nothing else: `RDATA`, `CONV` and the `MODE`
shadow keep their values whatever the address (`40_transport.md` R126, R127, R128). -/
def Obligations.WrregWrites : Prop :=
  ∀ (a : RegAddr) (v : Payload) (s : State), Running (.wrreg a v) s → s.ph = 0 →
    exec (.wrreg a v) s = .next (ended (afterWrite a v s))

/-- FRAME.RD and FRAME.WR: the primitives `MemRead(a, 4)` and `MemWrite(a, 3, v)` alone, in any state: no completion, no
sequencer change (`40_transport.md` R122, R123, R126, R127). -/
def Obligations.FramesAlone : Prop :=
  (∀ (a : RegAddr) (s : State) (r0 r1 r2 r3 : Byte), s.env.nextRead = .bytes r0 r1 r2 r3 →
    exec (.frameRd a) s = .next (afterRead a r0 r1 r2 r3 s)) ∧
  (∀ (a : RegAddr) (s : State), s.env.nextRead = .none →
    exec (.frameRd a) s = .next (afterFailedRead (failedReadData s.env.draws) s)) ∧
  (∀ (a : RegAddr) (v : Payload) (s : State), exec (.frameWr a v) s = .next (afterWrite a v s))

/-! ### Channel-driver primitives -/

/-- SELCH writes the channel word `(CHCODE(s) << 8) | TESTRES` to `A_CHCTRL`: the code in payload bits [23:8], the flags in
bits [7:0] (`41_channel_primitives.md` R141, R142). -/
def Obligations.SelchWrites : Prop :=
  ∀ (sel : BitVec 5) (s : State), Running (.selch sel) s → s.ph = 0 →
    exec (.selch sel) s = .next (ended (afterWrite cfg.aChctrl (cfg.chcode sel ++ cfg.testres) s))

/-- START writes `CMD_START` with the rate code in bits [3:0] and sets `CONV`, also when the frame failed; `RATE` is neither
read nor written (`41_channel_primitives.md` R145, `10_state.md` R33). -/
def Obligations.StartWrites : Prop :=
  ∀ (r : BitVec 8) (s : State), Running (.start r) s → s.ph = 0 →
    exec (.start r) s =
      .next (ended { afterWrite cfg.aCmd (cfg.cmdStartHi ++ r.extractLsb' 0 4) s with conv := true })

/-- STOP writes `CMD_STOP` and clears `CONV`, also when the frame failed (`41_channel_primitives.md` R146). -/
def Obligations.StopWrites : Prop :=
  ∀ s : State, Running .stop s → s.ph = 0 →
    exec .stop s = .next (ended { afterWrite cfg.aCmd cfg.cmdStop s with conv := false })

/-- WAITRDY takes one ready sample a step: a satisfying sample completes, a sample that reaches the bound completes with
`TIMEOUT`, any other leaves the phase where it is; no frame occurs (`41_channel_primitives.md` R150, R151, R152). -/
def Obligations.WaitrdyPolls : Prop :=
  ∀ s : State, Running .waitrdy s → s.ph = 0 →
    (SampleReady s → exec .waitrdy s = .next (ended (afterPoll s))) ∧
    (SampleTimeout s →
      exec .waitrdy s = .next (ended { afterPoll s with st := { s.st with timeout := true } })) ∧
    (¬ SampleReady s → ¬ SampleTimeout s → exec .waitrdy s = .next (afterPoll s))

/-- Under any configuration with a finite `T_READY`, a high sample that reaches the bound completes WAITRDY with `TIMEOUT`
(`41_channel_primitives.md` R150, R152): the case of `WaitrdyPolls` that the block's own `T_READY` may rule out. -/
def Obligations.BoundedWaitTimesOut : Prop :=
  ∀ (c : Cfg) (s : State),
    Running .waitrdy s → s.ph = 0 → s.env.nextLevel = .high → tReady c = some (s.p + 1) →
    waitrdyWith c s = .next (ended { afterPoll s with st := { s.st with timeout := true } })

/-- RDVOLT: on success `V` is `VoltOfRaw` of the two's-complement value of the low 24 bits, the top byte ignored; on failure
`V` is −1.0; `VOK` is the success of the read (`41_channel_primitives.md` R158, R159, R161, R162). -/
def Obligations.RdvoltReads : Prop :=
  ∀ s : State, Running .rdvolt s → s.ph = 0 →
    (∀ r0 r1 r2 r3, s.env.nextRead = .bytes r0 r1 r2 r3 →
      exec .rdvolt s =
        .next (ended { afterRead cfg.aData r0 r1 r2 r3 s with v := cfg.voltOfRaw (r1 ++ r2 ++ r3).toInt, vok := true })) ∧
    (s.env.nextRead = .none →
      exec .rdvolt s =
        .next (ended { afterFailedRead (failedReadData s.env.draws) s with v := 0xBF800000#32, vok := false }))

/-! ### Acquisition: the phases of ACQ1, ACQAVG, RDALL, RDALLAVG (`42_acquisition.md` R191) -/

/-- Phase 0 of ACQ1, ACQAVG, RDALL, RDALLAVG: the channel is selected; an averaged operation clears its accumulator to `+0.0`,
sets `AOK` and clears `S`. -/
def Obligations.SelectPhaseStep : Prop :=
  ∀ (i : Instr) (q : Acq) (s : State), compositeOf i = some q → Running i s → s.ph = 0 →
    exec i s = .next
      { afterWrite cfg.aChctrl (cfg.chcode (channelOf q s) ++ cfg.testres) s with
        accs := if q.averaged && !q.batch then 0#32 else s.accs
        acc := if q.averaged && q.batch then s.acc.set s.k 0#32 else s.acc
        aok := q.averaged || s.aok
        samples := if q.averaged then 0#16 else s.samples
        ph := 1 }

/-- Phase 1 of ACQ1, ACQAVG, RDALL, RDALLAVG: a conversion is started at the rate of `RATE`, `CONV` is set also when the frame
failed, and the wait phase is entered (`42_acquisition.md` R170, R172). That `P` and `SEENHI` are cleared in this step, and not
in the first poll step, is the model's reading of `10_state.md` R41, log 10. -/
def Obligations.StartPhaseStep : Prop :=
  ∀ (i : Instr) (q : Acq) (s : State), compositeOf i = some q → Running i s → s.ph = 1 →
    exec i s = .next
      { afterWrite cfg.aCmd (cfg.cmdStartHi ++ s.rate) s with conv := true, p := 0, seenhi := false, ph := 2 }

/-- Phase 2 of ACQ1, ACQAVG, RDALL, RDALLAVG: one ready sample; phase 3 follows a satisfying one, phase 5 a timeout
(`42_acquisition.md` R190, R191). -/
def Obligations.WaitPhaseStep : Prop :=
  ∀ (i : Instr) (q : Acq) (s : State), compositeOf i = some q → Running i s → s.ph = 2 →
    (SampleReady s → exec i s = .next { afterPoll s with ph := 3 }) ∧
    (SampleTimeout s → exec i s = .next { afterPoll s with st := { s.st with timeout := true }, ph := 5 }) ∧
    (¬ SampleReady s → ¬ SampleTimeout s → exec i s = .next (afterPoll s))

/-- Phase 3 of ACQ1, ACQAVG, RDALL, RDALLAVG: the conversion is stopped (`42_acquisition.md` R191). -/
def Obligations.StopPhaseStep : Prop :=
  ∀ (i : Instr) (q : Acq) (s : State), compositeOf i = some q → Running i s → s.ph = 3 →
    exec i s = .next { afterWrite cfg.aCmd cfg.cmdStop s with conv := false, ph := 4 }

/-- Phase 4 of ACQ1, ACQAVG, RDALL, RDALLAVG: the sample is read, decoded or replaced by the sentinel, and the sample ends:
accumulated in an averaged operation, stored in a batch, or the result of ACQ1, which completes (`42_acquisition.md` R178,
R184, R191). -/
def Obligations.ReadPhaseStep : Prop :=
  ∀ (i : Instr) (q : Acq) (s : State), compositeOf i = some q → Running i s → s.ph = 4 →
    (∀ r0 r1 r2 r3, s.env.nextRead = .bytes r0 r1 r2 r3 →
      exec i s = .next
        (sampleEnd q
          { afterRead cfg.aData r0 r1 r2 r3 s with v := cfg.voltOfRaw (r1 ++ r2 ++ r3).toInt, vok := true })) ∧
    (s.env.nextRead = .none →
      exec i s = .next
        (sampleEnd q
          { afterFailedRead (failedReadData s.env.draws) s with v := 0xBF800000#32, vok := false }))

/-- Phase 5 of ACQ1, ACQAVG, RDALL, RDALLAVG: after a timeout the stop frame is issued, the data read is skipped, and the
sample is the sentinel (`42_acquisition.md` R190). -/
def Obligations.TimeoutPhaseStep : Prop :=
  ∀ (i : Instr) (q : Acq) (s : State), compositeOf i = some q → Running i s → s.ph = 5 →
    exec i s = .next
      (sampleEnd q { afterWrite cfg.aCmd cfg.cmdStop s with conv := false, v := 0xBF800000#32, vok := false })

/-- Phase 6 of ACQAVG and RDALLAVG: `V` is the accumulator divided by `n`, `VOK` is `AOK`, and the channel ends
(`42_acquisition.md` R175, R188, R191). -/
def Obligations.FinishPhaseStep : Prop :=
  ∀ (i : Instr) (q : Acq) (s : State), compositeOf i = some q → q.averaged = true → Running i s → s.ph = 6 →
    exec i s = .next
      (channelEnd q { s with v := f32Div (accumulatorOf q s) (f32OfInt q.n.toNat), vok := s.aok })

/-- Each phase of ACQ1 has the bus events and the results of the primitive it is made of (`30_encoding.md` R107): the
primitive run from the same state differs by its completion alone. -/
def Obligations.PhasesMatchPrimitives : Prop :=
  ∀ (sel : BitVec 5) (s : State), Running (.acq1 sel) s →
    (s.ph = 0 → ∃ t u, exec (.acq1 sel) s = .next t ∧ exec (.selch sel) (asPrimitive (.selch sel) s) = .next u ∧
      SameResults t u ∧ u.trace = t.trace ++ [.done s.owner u.resp]) ∧
    (s.ph = 1 → ∃ t u, exec (.acq1 sel) s = .next t ∧
      exec (.start (s.rate.setWidth 8)) (asPrimitive (.start (s.rate.setWidth 8)) s) = .next u ∧
      SameResults t u ∧ u.trace = t.trace ++ [.done s.owner u.resp]) ∧
    (s.ph = 2 → SampleReady s → ∃ t u, exec (.acq1 sel) s = .next t ∧
      exec .waitrdy (asPrimitive .waitrdy s) = .next u ∧ SameResults t u ∧ u.trace = t.trace ++ [.done s.owner u.resp]) ∧
    (s.ph = 3 → ∃ t u, exec (.acq1 sel) s = .next t ∧ exec .stop (asPrimitive .stop s) = .next u ∧
      SameResults t u ∧ u.trace = t.trace ++ [.done s.owner u.resp]) ∧
    (s.ph = 4 → ∃ t u, exec (.acq1 sel) s = .next t ∧ exec .rdvolt (asPrimitive .rdvolt s) = .next u ∧
      SameResults t u ∧ u.trace = t.trace)

/-- ACQ1 from its acceptance to its completion, when the ready line reads high and then low: within eight steps the block is
idle with `CONV = 0`; `V` and `VOK` are decided by the data read alone, whatever the three write frames answered, unless
`T_READY` is 1, when the cycle times out and the sample is the sentinel (`42_acquisition.md` R171, R172, R190). -/
def Obligations.Acq1RunsToCompletion : Prop :=
  ∀ (s : State) (w : CommandWord) (sel : BitVec 5) (ans : ReadAnswer) (rs : List ReadAnswer) (ls : List Level),
    s.busy = false → s.xfer = none → s.port.main = [w] → s.port.timer = [] → decode w = .ok (.acq1 sel) →
    s.env.reads = ans :: rs → s.env.ready = .high :: .low :: ls →
    ∃ k t, k ≤ 8 ∧ Host.Core.run Sys2Proof.core k s = .next t ∧ t.busy = false ∧ t.conv = false ∧ Over t ∧
      (tReady cfg = some 1 → t.v = sentinel ∧ t.vok = false ∧ t.st.timeout = true ∧ t.rdata = s.rdata) ∧
      (tReady cfg ≠ some 1 → t.st.timeout = false ∧
        (∀ r0 r1 r2 r3, ans = .bytes r0 r1 r2 r3 →
          t.rdata = r0 ++ r1 ++ r2 ++ r3 ∧ t.v = cfg.voltOfRaw (r1 ++ r2 ++ r3).toInt ∧ t.vok = true ∧ t.xok = true) ∧
        (ans = .none → t.v = sentinel ∧ t.vok = false ∧ t.xok = false ∧ t.st.xfail = true))

/-- Every composite operation completes when each of its waits sees the ready line high and then low: some number of steps
after its acceptance the block is idle with `CONV = 0`; one write frame per channel and two per cycle were answered, and,
unless `T_READY` is 1, exactly one data read and two ready samples per cycle, with exactly `n` cycles per channel of an averaged
operation (`42_acquisition.md` R170, R176, R191). A run under an unbounded wait that is never satisfied does not complete
(`41_channel_primitives.md` R153), hence the premise on the samples. -/
def Obligations.CompositesRunToCompletion : Prop :=
  ∀ (i : Instr) (q : Acq) (s : State) (ls : List Level),
    compositeOf i = some q → i.wellFormed = true → s.busy = false →
    s.env.ready = (List.replicate (cycles q) [Level.high, Level.low]).flatten ++ ls →
    ∃ k t, steps (exec i) (k + 1) s = .next t ∧ t.busy = false ∧ t.conv = false ∧
      t.env.writes = s.env.writes.drop ((if q.batch then 6 else 1) + 2 * cycles q) ∧
      (tReady cfg ≠ some 1 → t.env.reads = s.env.reads.drop (cycles q) ∧ t.env.ready = ls)

/-- ACQAVG and RDALLAVG when the device answers no data read: the operation completes with `V` the sentinel, `VOK = 0` and the
accumulator exactly `−n`, and, in a batch, with these values for each of the six channels; `XFAIL` is set and every failed answer
was used, unless `T_READY` is 1, when a wait may time out instead of a read failing (`42_acquisition.md` R178, R184, R190). -/
def Obligations.AllFailedRunIsSentinel : Prop :=
  ∀ (i : Instr) (q : Acq) (s : State) (rs : List ReadAnswer) (ls : List Level),
    compositeOf i = some q → q.averaged = true → i.wellFormed = true → s.busy = false →
    s.env.reads = List.replicate (cycles q) ReadAnswer.none ++ rs →
    s.env.ready = (List.replicate (cycles q) [Level.high, Level.low]).flatten ++ ls →
    ∃ m t, steps (exec i) (m + 1) s = .next t ∧ t.busy = false ∧ t.conv = false ∧ t.v = sentinel ∧ t.vok = false ∧
      (q.batch = false → t.accs = f32OfInt (-(q.n.toNat : Int))) ∧
      (q.batch = true → ∀ k : Fin 6, t.acc[k] = f32OfInt (-(q.n.toNat : Int)) ∧ t.vb[k] = sentinel ∧ t.bok[k] = false) ∧
      (tReady cfg ≠ some 1 → t.st.xfail = true ∧ t.env.reads = rs)

/-- A wait on a line that stays high does not end while `T_READY` is ∞: after any number of samples WAITRDY is still in
its wait phase, and nothing but the samples has happened (`41_channel_primitives.md` R153, `60_exceptions.md` R241). -/
def Obligations.HighLineHoldsWait : Prop :=
  ∀ (c : Cfg) (m : Nat) (s : State) (ls : List Level),
    tReady c = none → Running .waitrdy s → s.ph = 0 → s.env.ready = List.replicate m Level.high ++ ls →
    ∃ t, steps (waitrdyWith c) m s = .next t ∧ t.busy = true ∧ t.ph = 0 ∧ t.op = s.op ∧ t.p = s.p + m ∧
      t.env.ready = ls ∧ t.trace = s.trace ++ List.replicate m (.poll .high) ∧ t.st = s.st

/-! ### Configuration and system operations -/

/-- SETMODE writes `MODEWORD(m)` to `A_CTRL`; the shadow changes only if the write succeeded (`43_config_system.md` R201,
R202). -/
def Obligations.SetmodeWrites : Prop :=
  ∀ (m : BitVec 8) (s : State), Running (.setmode m) s → s.ph = 0 →
    (s.env.nextWrite = true →
      exec (.setmode m) s =
        .next (ended
          { afterWrite cfg.aCtrl (cfg.modeword (m.extractLsb' 0 2)) s with mode := m.extractLsb' 0 2, modev := true })) ∧
    (s.env.nextWrite = false →
      exec (.setmode m) s = .next (ended (afterWrite cfg.aCtrl (cfg.modeword (m.extractLsb' 0 2)) s)))

/-- SETRATE, in its acceptance step: `RATE` is the rate code, `ST` is cleared, the completion is emitted, and nothing else
changes; no frame and no poll (`43_config_system.md` R205). -/
def Obligations.SetrateSets : Prop :=
  ∀ (r : BitVec 8) (s : State), r.toNat < 16 → s.busy = false →
    ∃ t, exec (.setrate r) s = .next t ∧ t.rate.toNat = r.toNat ∧
      t.st = { xfail := false, timeout := false, badop := false, unsupported := false, idmismatch := false } ∧
      t.trace = s.trace ++ [.done s.owner t.resp] ∧ { t with rate := s.rate, st := s.st, trace := s.trace } = s

/-- CHKCOM: `CHKOK` is set exactly when the read succeeded and the masked container is the expected constant; a good read with
another identity sets `IDMISMATCH`, a failed read `XFAIL` (`43_config_system.md` R209, `60_exceptions.md` R226). -/
def Obligations.ChkcomChecks : Prop :=
  ∀ s : State, Running .chkcom s → s.ph = 0 →
    (∀ r0 r1 r2 r3, s.env.nextRead = .bytes r0 r1 r2 r3 →
      ((r0 ++ r1 ++ r2 ++ r3) &&& prodidMask cfg = prodidExpect cfg →
        exec .chkcom s = .next (ended { afterRead cfg.aProdid r0 r1 r2 r3 s with chkok := true })) ∧
      ((r0 ++ r1 ++ r2 ++ r3) &&& prodidMask cfg ≠ prodidExpect cfg →
        exec .chkcom s =
          .next (ended
            { afterRead cfg.aProdid r0 r1 r2 r3 s with chkok := false, st := { s.st with idmismatch := true } }))) ∧
    (s.env.nextRead = .none →
      exec .chkcom s = .next (ended { afterFailedRead (failedReadData s.env.draws) s with chkok := false }))

/-- RESET, in its acceptance step: `ST` becomes exactly `UNSUPPORTED`, the completion is emitted, and nothing else changes; no
frame and no poll (`43_config_system.md` R212, `70_reset_and_hazards.md` R253). -/
def Obligations.ResetReportsUnsupported : Prop :=
  ∀ s : State, s.busy = false →
    ∃ t, exec .reset s = .next t ∧
      t.st = { xfail := false, timeout := false, badop := false, unsupported := true, idmismatch := false } ∧
      t.trace = s.trace ++ [.done s.owner t.resp] ∧ { t with st := s.st, trace := s.trace } = s

/-! ### Numbers -/

/-- Rounding is to nearest: `roundShift m k` is within half a unit of `m / 2^k`, and a tie goes to the even neighbour
(`00_scope.md` R14). -/
def Obligations.RoundingIsNearestEven : Prop :=
  ∀ m k : Nat,
    2 * (m - roundShift m k * 2 ^ k) ≤ 2 ^ k ∧ 2 * (roundShift m k * 2 ^ k - m) ≤ 2 ^ k ∧
    ((2 * (m - roundShift m k * 2 ^ k) = 2 ^ k ∨ 2 * (roundShift m k * 2 ^ k - m) = 2 ^ k) → roundShift m k % 2 = 0)

/-- The conversion of an integer of magnitude at most 2^24 is exact: the pattern stands for `±m · 2^e` with that very value
(`00_scope.md` R14). -/
def Obligations.IntegerConversionExact : Prop :=
  ∀ i : Int, i.natAbs ≤ 2 ^ 24 →
    ∃ neg m e, f32Value (f32OfInt i) = .fin neg m e ∧ -149 ≤ e ∧ signedNat neg m * 2 ^ (e + 149).toNat = i * 2 ^ 149

/-- The default scaling is odd: `VoltOfRaw(−raw)` is the negation of `VoltOfRaw(raw)` for every non-zero code but the most
negative one (`41_channel_primitives.md` R160, R163). -/
def Obligations.VoltOfRawIsOdd : Prop :=
  ∀ raw : Int, raw ≠ 0 → -8388608 < raw → raw ≤ 8388607 → voltOfRawDefault (-raw) = f32Neg (voltOfRawDefault raw)

/-- The values the spec states for the default scaling (`41_channel_primitives.md` R163, `95_test_vectors.md` V-SRC-1). -/
def Obligations.VoltOfRawStatedValues : Prop :=
  voltOfRawDefault 0 = 0x00000000#32 ∧ voltOfRawDefault 8388607 = 0x41C80000#32 ∧
  voltOfRawDefault (-8388607) = 0xC1C80000#32 ∧ voltOfRawDefault (-8388608) = 0xC1C80002#32 ∧
  voltOfRawDefault 1 = 0x36480002#32 ∧ voltOfRawDefault (-1) = 0xB6480002#32

/-- An average of one sample is the sample, bit for bit, for every finite sample but `−0.0` (`42_acquisition.md` R180). -/
def Obligations.AverageOfOneIsSample : Prop :=
  ∀ x : F32, f32Exponent x ≠ 255 → x ≠ 0x80000000#32 → f32Div (f32Add zeroVolt x) (f32OfInt 1) = x

/-- The arithmetic of `42_acquisition.md` R178: the binary32 sum of `n` sentinels is exactly `−n`, and its quotient by `n` is
exactly the sentinel, for every `n` from 1 to 65535. `AllFailedRunIsSentinel` says it of a run. -/
def Obligations.AllFailedAverageIsSentinel : Prop :=
  ∀ n : Nat, 1 ≤ n → n ≤ 65535 →
    sentinelSum n = f32OfInt (-(n : Int)) ∧ f32Div (sentinelSum n) (f32OfInt (n : Int)) = sentinel

/-! ### The host's view -/

/-- The `STATUS` word, bit by bit; bit 2 reads 0 in every state of a run (`10_state.md` R34, R47). -/
def Obligations.StatusWordBits : Prop :=
  ∀ s : State,
    (statusWord s).getLsbD 0 = s.busy ∧ (statusWord s).getLsbD 1 = s.conv ∧ (statusWord s).getLsbD 2 = s.cs ∧
    (statusWord s).getLsbD 3 = s.xok ∧ (statusWord s).getLsbD 4 = s.vok ∧ (statusWord s).getLsbD 5 = s.chkok ∧
    (statusWord s).getLsbD 6 = s.aok ∧ (statusWord s).getLsbD 7 = false ∧
    (∀ k : Fin 6, (statusWord s).getLsbD (8 + k.val) = s.bok[k]) ∧
    (statusWord s).getLsbD 14 = false ∧ (statusWord s).getLsbD 15 = false ∧
    (statusWord s).getLsbD 16 = s.st.xfail ∧ (statusWord s).getLsbD 17 = s.st.timeout ∧
    (statusWord s).getLsbD 18 = s.st.badop ∧ (statusWord s).getLsbD 19 = s.st.unsupported ∧
    (statusWord s).getLsbD 20 = s.st.idmismatch ∧ (∀ j, 21 ≤ j → (statusWord s).getLsbD j = false) ∧
    (RunInv s → (statusWord s).getLsbD 2 = false)

/-- The `CONFIG` word: `RATE`, `MODE` once written, `MODEV`, zeros; bits [5:4] are free while `MODEV = 0` (`10_state.md`
R48). -/
def Obligations.ConfigWordFields : Prop :=
  ∀ s : State,
    (configWord s).extractLsb' 0 4 = s.rate ∧ (s.modev = true → (configWord s).extractLsb' 4 2 = s.mode) ∧
    (configWord s).getLsbD 6 = s.modev ∧ (configWord s).extractLsb' 7 25 = 0#25

/-- The inspection space: the register at each index, the fields of `SEQ`, and zero above 17 (`10_state.md` R46). -/
def Obligations.InspectionIndices : Prop :=
  ∀ s : State,
    inspect s 0 = statusWord s ∧ inspect s 1 = configWord s ∧ inspect s 2 = s.rdata ∧ inspect s 3 = s.v ∧
    (∀ k : Fin 6, inspect s (4 + k.val) = s.vb[k]) ∧ inspect s 10 = s.accs ∧
    (∀ k : Fin 6, inspect s (11 + k.val) = s.acc[k]) ∧
    (inspect s 17).extractLsb' 0 8 = s.op.code ∧ ((inspect s 17).extractLsb' 8 4).toNat = s.ph.val ∧
    ((inspect s 17).extractLsb' 12 3).toNat = s.k.val ∧ (inspect s 17).getLsbD 15 = false ∧
    (inspect s 17).extractLsb' 16 16 = s.samples ∧ (∀ index, 17 < index → inspect s index = 0#32)

/-! ### The whole machine -/

/-- The reset values the spec gives (`10_state.md` R53, `70_reset_and_hazards.md` R250). What R53 leaves unspecified is not
stated. -/
def Obligations.ResetState : Prop :=
  State.reset.busy = false ∧
  State.reset.op = { code := 0#8, a := 0#7, v := 0#24, s := 0#5, n := 0#16, r := 0#8, m := 0#8 } ∧
  State.reset.ph = 0 ∧ State.reset.k = 0 ∧ State.reset.samples = 0#16 ∧ State.reset.p = 0 ∧ State.reset.seenhi = false ∧
  State.reset.cs = false ∧ State.reset.conv = false ∧
  State.reset.st = { xfail := false, timeout := false, badop := false, unsupported := false, idmismatch := false } ∧
  State.reset.xok = false ∧ State.reset.vok = false ∧ State.reset.chkok = false ∧ State.reset.aok = false ∧
  (∀ k : Fin 6, State.reset.bok[k] = false) ∧ State.reset.rate = cfg.rateRst ∧ State.reset.modev = false

/-- The invariant holds at reset. -/
def Obligations.ResetMeetsInv : Prop := RunInv State.reset

/-- Every step keeps the invariant: chip-select released between steps, `ST` as R228 allows it, an idle sequencer at rest, a
busy one at a legal phase of the operation it latched with its counters in range and `CONV` set exactly from start to stop. -/
def Obligations.StepKeepsInv : Prop := ∀ s t : State, RunInv s → step s = .next t → RunInv t

/-- No step of the block faults or refuses, in any state that meets the invariant (`60_exceptions.md` R220, R241). -/
def Obligations.InvStateSteps : Prop := ∀ s : State, RunInv s → Runs (step s)

/-- Chip-select discipline: the events of one step are at most one whole frame, from `CSA` to `CSD`, or one poll, and then at
most one completion; and chip-select is never left asserted (`40_transport.md` R129, `20_memory.md` R72). -/
def Obligations.StepEventsAreWhole : Prop :=
  ∀ s t : State, step s = .next t →
    (∃ evs, t.trace = s.trace ++ evs ∧ StepEvents evs) ∧ (s.cs = false → t.cs = false)

/-- Which operation writes which result, flag and configuration register: whatever a micro-step of an operation does, the
registers its column of `10_state.md` R50 does not list are unchanged. -/
def Obligations.OperationsWriteOnlyTheirColumn : Prop :=
  ∀ (i : Instr) (s t : State), exec i s = .next t → WritesOnlyItsColumn i s t

/-- A conversion that an acquisition has started is stopped: from the start phase on, the same operation runs until a stop
phase has cleared `CONV` (`41_channel_primitives.md` R147). Said of one step: from a state of a composite operation with
`CONV = 1`, the operation does not end and is not replaced before `CONV` is 0. -/
def Obligations.StartedConversionIsStopped : Prop :=
  ∀ (i : Instr) (q : Acq) (s t : State), compositeOf i = some q → Running i s → RunInv s → s.ph ∈ [2, 3, 5] →
    step s = .next t → t.conv = false ∨ (Running i t ∧ t.conv = true ∧ t.ph ∈ [2, 3, 5])
end

