-- ==== Sys2Proof/Laws/State.lean ====
section
/-! SUPPORT. One lemma per field per named update of State: what the update makes of the field. Later proofs unfold no
record update. -/

namespace Sys2Proof.Machine
open Sys2Proof Sys2Proof.Config

/-! `assertCs`: `CS <- 1` (`40_transport.md` R121). -/

@[simp] theorem assertCs_rdata (s : State) : (assertCs s).rdata = s.rdata := rfl
@[simp] theorem assertCs_v (s : State) : (assertCs s).v = s.v := rfl
@[simp] theorem assertCs_vb (s : State) : (assertCs s).vb = s.vb := rfl
@[simp] theorem assertCs_accs (s : State) : (assertCs s).accs = s.accs := rfl
@[simp] theorem assertCs_acc (s : State) : (assertCs s).acc = s.acc := rfl
@[simp] theorem assertCs_xok (s : State) : (assertCs s).xok = s.xok := rfl
@[simp] theorem assertCs_vok (s : State) : (assertCs s).vok = s.vok := rfl
@[simp] theorem assertCs_bok (s : State) : (assertCs s).bok = s.bok := rfl
@[simp] theorem assertCs_aok (s : State) : (assertCs s).aok = s.aok := rfl
@[simp] theorem assertCs_chkok (s : State) : (assertCs s).chkok = s.chkok := rfl
@[simp] theorem assertCs_rate (s : State) : (assertCs s).rate = s.rate := rfl
@[simp] theorem assertCs_mode (s : State) : (assertCs s).mode = s.mode := rfl
@[simp] theorem assertCs_modev (s : State) : (assertCs s).modev = s.modev := rfl
@[simp] theorem assertCs_cs (s : State) : (assertCs s).cs = true := rfl
@[simp] theorem assertCs_conv (s : State) : (assertCs s).conv = s.conv := rfl
@[simp] theorem assertCs_st (s : State) : (assertCs s).st = s.st := rfl
@[simp] theorem assertCs_busy (s : State) : (assertCs s).busy = s.busy := rfl
@[simp] theorem assertCs_op (s : State) : (assertCs s).op = s.op := rfl
@[simp] theorem assertCs_ph (s : State) : (assertCs s).ph = s.ph := rfl
@[simp] theorem assertCs_k (s : State) : (assertCs s).k = s.k := rfl
@[simp] theorem assertCs_samples (s : State) : (assertCs s).samples = s.samples := rfl
@[simp] theorem assertCs_p (s : State) : (assertCs s).p = s.p := rfl
@[simp] theorem assertCs_seenhi (s : State) : (assertCs s).seenhi = s.seenhi := rfl
@[simp] theorem assertCs_owner (s : State) : (assertCs s).owner = s.owner := rfl
@[simp] theorem assertCs_port (s : State) : (assertCs s).port = s.port := rfl
@[simp] theorem assertCs_xfer (s : State) : (assertCs s).xfer = s.xfer := rfl
@[simp] theorem assertCs_env (s : State) : (assertCs s).env = s.env := rfl
@[simp] theorem assertCs_trace (s : State) : (assertCs s).trace = s.trace ++ [.csa] := rfl

/-! `releaseCs`: `CS <- 0` (`40_transport.md` R121). -/

@[simp] theorem releaseCs_rdata (s : State) : (releaseCs s).rdata = s.rdata := rfl
@[simp] theorem releaseCs_v (s : State) : (releaseCs s).v = s.v := rfl
@[simp] theorem releaseCs_vb (s : State) : (releaseCs s).vb = s.vb := rfl
@[simp] theorem releaseCs_accs (s : State) : (releaseCs s).accs = s.accs := rfl
@[simp] theorem releaseCs_acc (s : State) : (releaseCs s).acc = s.acc := rfl
@[simp] theorem releaseCs_xok (s : State) : (releaseCs s).xok = s.xok := rfl
@[simp] theorem releaseCs_vok (s : State) : (releaseCs s).vok = s.vok := rfl
@[simp] theorem releaseCs_bok (s : State) : (releaseCs s).bok = s.bok := rfl
@[simp] theorem releaseCs_aok (s : State) : (releaseCs s).aok = s.aok := rfl
@[simp] theorem releaseCs_chkok (s : State) : (releaseCs s).chkok = s.chkok := rfl
@[simp] theorem releaseCs_rate (s : State) : (releaseCs s).rate = s.rate := rfl
@[simp] theorem releaseCs_mode (s : State) : (releaseCs s).mode = s.mode := rfl
@[simp] theorem releaseCs_modev (s : State) : (releaseCs s).modev = s.modev := rfl
@[simp] theorem releaseCs_cs (s : State) : (releaseCs s).cs = false := rfl
@[simp] theorem releaseCs_conv (s : State) : (releaseCs s).conv = s.conv := rfl
@[simp] theorem releaseCs_st (s : State) : (releaseCs s).st = s.st := rfl
@[simp] theorem releaseCs_busy (s : State) : (releaseCs s).busy = s.busy := rfl
@[simp] theorem releaseCs_op (s : State) : (releaseCs s).op = s.op := rfl
@[simp] theorem releaseCs_ph (s : State) : (releaseCs s).ph = s.ph := rfl
@[simp] theorem releaseCs_k (s : State) : (releaseCs s).k = s.k := rfl
@[simp] theorem releaseCs_samples (s : State) : (releaseCs s).samples = s.samples := rfl
@[simp] theorem releaseCs_p (s : State) : (releaseCs s).p = s.p := rfl
@[simp] theorem releaseCs_seenhi (s : State) : (releaseCs s).seenhi = s.seenhi := rfl
@[simp] theorem releaseCs_owner (s : State) : (releaseCs s).owner = s.owner := rfl
@[simp] theorem releaseCs_port (s : State) : (releaseCs s).port = s.port := rfl
@[simp] theorem releaseCs_xfer (s : State) : (releaseCs s).xfer = s.xfer := rfl
@[simp] theorem releaseCs_env (s : State) : (releaseCs s).env = s.env := rfl
@[simp] theorem releaseCs_trace (s : State) : (releaseCs s).trace = s.trace ++ [.csd] := rfl

/-! `busRead`: the exchange of a read frame (`40_transport.md` R122). -/

@[simp] theorem busRead_rdata (c : Cfg) (a : RegAddr) (s : State) : (busRead c a s).rdata = containerOf (failedReadData s.env.draws) s.env.nextRead := rfl
@[simp] theorem busRead_v (c : Cfg) (a : RegAddr) (s : State) : (busRead c a s).v = s.v := rfl
@[simp] theorem busRead_vb (c : Cfg) (a : RegAddr) (s : State) : (busRead c a s).vb = s.vb := rfl
@[simp] theorem busRead_accs (c : Cfg) (a : RegAddr) (s : State) : (busRead c a s).accs = s.accs := rfl
@[simp] theorem busRead_acc (c : Cfg) (a : RegAddr) (s : State) : (busRead c a s).acc = s.acc := rfl
@[simp] theorem busRead_xok (c : Cfg) (a : RegAddr) (s : State) : (busRead c a s).xok = answered s.env.nextRead := rfl
@[simp] theorem busRead_vok (c : Cfg) (a : RegAddr) (s : State) : (busRead c a s).vok = s.vok := rfl
@[simp] theorem busRead_bok (c : Cfg) (a : RegAddr) (s : State) : (busRead c a s).bok = s.bok := rfl
@[simp] theorem busRead_aok (c : Cfg) (a : RegAddr) (s : State) : (busRead c a s).aok = s.aok := rfl
@[simp] theorem busRead_chkok (c : Cfg) (a : RegAddr) (s : State) : (busRead c a s).chkok = s.chkok := rfl
@[simp] theorem busRead_rate (c : Cfg) (a : RegAddr) (s : State) : (busRead c a s).rate = s.rate := rfl
@[simp] theorem busRead_mode (c : Cfg) (a : RegAddr) (s : State) : (busRead c a s).mode = s.mode := rfl
@[simp] theorem busRead_modev (c : Cfg) (a : RegAddr) (s : State) : (busRead c a s).modev = s.modev := rfl
@[simp] theorem busRead_cs (c : Cfg) (a : RegAddr) (s : State) : (busRead c a s).cs = s.cs := rfl
@[simp] theorem busRead_conv (c : Cfg) (a : RegAddr) (s : State) : (busRead c a s).conv = s.conv := rfl
@[simp] theorem busRead_st (c : Cfg) (a : RegAddr) (s : State) : (busRead c a s).st = s.st.noteFrame (answered s.env.nextRead) := rfl
@[simp] theorem busRead_busy (c : Cfg) (a : RegAddr) (s : State) : (busRead c a s).busy = s.busy := rfl
@[simp] theorem busRead_op (c : Cfg) (a : RegAddr) (s : State) : (busRead c a s).op = s.op := rfl
@[simp] theorem busRead_ph (c : Cfg) (a : RegAddr) (s : State) : (busRead c a s).ph = s.ph := rfl
@[simp] theorem busRead_k (c : Cfg) (a : RegAddr) (s : State) : (busRead c a s).k = s.k := rfl
@[simp] theorem busRead_samples (c : Cfg) (a : RegAddr) (s : State) : (busRead c a s).samples = s.samples := rfl
@[simp] theorem busRead_p (c : Cfg) (a : RegAddr) (s : State) : (busRead c a s).p = s.p := rfl
@[simp] theorem busRead_seenhi (c : Cfg) (a : RegAddr) (s : State) : (busRead c a s).seenhi = s.seenhi := rfl
@[simp] theorem busRead_owner (c : Cfg) (a : RegAddr) (s : State) : (busRead c a s).owner = s.owner := rfl
@[simp] theorem busRead_port (c : Cfg) (a : RegAddr) (s : State) : (busRead c a s).port = s.port := rfl
@[simp] theorem busRead_xfer (c : Cfg) (a : RegAddr) (s : State) : (busRead c a s).xfer = s.xfer := rfl
@[simp] theorem busRead_env (c : Cfg) (a : RegAddr) (s : State) : (busRead c a s).env = s.env.afterRead := rfl
@[simp] theorem busRead_trace (c : Cfg) (a : RegAddr) (s : State) : (busRead c a s).trace = s.trace ++ readSlots c a s.env.nextRead := rfl

/-! `busWrite`: the exchange of a write frame (`40_transport.md` R126). -/

@[simp] theorem busWrite_rdata (c : Cfg) (a : RegAddr) (w : Payload) (s : State) : (busWrite c a w s).rdata = s.rdata := rfl
@[simp] theorem busWrite_v (c : Cfg) (a : RegAddr) (w : Payload) (s : State) : (busWrite c a w s).v = s.v := rfl
@[simp] theorem busWrite_vb (c : Cfg) (a : RegAddr) (w : Payload) (s : State) : (busWrite c a w s).vb = s.vb := rfl
@[simp] theorem busWrite_accs (c : Cfg) (a : RegAddr) (w : Payload) (s : State) : (busWrite c a w s).accs = s.accs := rfl
@[simp] theorem busWrite_acc (c : Cfg) (a : RegAddr) (w : Payload) (s : State) : (busWrite c a w s).acc = s.acc := rfl
@[simp] theorem busWrite_xok (c : Cfg) (a : RegAddr) (w : Payload) (s : State) : (busWrite c a w s).xok = s.env.nextWrite := rfl
@[simp] theorem busWrite_vok (c : Cfg) (a : RegAddr) (w : Payload) (s : State) : (busWrite c a w s).vok = s.vok := rfl
@[simp] theorem busWrite_bok (c : Cfg) (a : RegAddr) (w : Payload) (s : State) : (busWrite c a w s).bok = s.bok := rfl
@[simp] theorem busWrite_aok (c : Cfg) (a : RegAddr) (w : Payload) (s : State) : (busWrite c a w s).aok = s.aok := rfl
@[simp] theorem busWrite_chkok (c : Cfg) (a : RegAddr) (w : Payload) (s : State) : (busWrite c a w s).chkok = s.chkok := rfl
@[simp] theorem busWrite_rate (c : Cfg) (a : RegAddr) (w : Payload) (s : State) : (busWrite c a w s).rate = s.rate := rfl
@[simp] theorem busWrite_mode (c : Cfg) (a : RegAddr) (w : Payload) (s : State) : (busWrite c a w s).mode = s.mode := rfl
@[simp] theorem busWrite_modev (c : Cfg) (a : RegAddr) (w : Payload) (s : State) : (busWrite c a w s).modev = s.modev := rfl
@[simp] theorem busWrite_cs (c : Cfg) (a : RegAddr) (w : Payload) (s : State) : (busWrite c a w s).cs = s.cs := rfl
@[simp] theorem busWrite_conv (c : Cfg) (a : RegAddr) (w : Payload) (s : State) : (busWrite c a w s).conv = s.conv := rfl
@[simp] theorem busWrite_st (c : Cfg) (a : RegAddr) (w : Payload) (s : State) : (busWrite c a w s).st = s.st.noteFrame s.env.nextWrite := rfl
@[simp] theorem busWrite_busy (c : Cfg) (a : RegAddr) (w : Payload) (s : State) : (busWrite c a w s).busy = s.busy := rfl
@[simp] theorem busWrite_op (c : Cfg) (a : RegAddr) (w : Payload) (s : State) : (busWrite c a w s).op = s.op := rfl
@[simp] theorem busWrite_ph (c : Cfg) (a : RegAddr) (w : Payload) (s : State) : (busWrite c a w s).ph = s.ph := rfl
@[simp] theorem busWrite_k (c : Cfg) (a : RegAddr) (w : Payload) (s : State) : (busWrite c a w s).k = s.k := rfl
@[simp] theorem busWrite_samples (c : Cfg) (a : RegAddr) (w : Payload) (s : State) : (busWrite c a w s).samples = s.samples := rfl
@[simp] theorem busWrite_p (c : Cfg) (a : RegAddr) (w : Payload) (s : State) : (busWrite c a w s).p = s.p := rfl
@[simp] theorem busWrite_seenhi (c : Cfg) (a : RegAddr) (w : Payload) (s : State) : (busWrite c a w s).seenhi = s.seenhi := rfl
@[simp] theorem busWrite_owner (c : Cfg) (a : RegAddr) (w : Payload) (s : State) : (busWrite c a w s).owner = s.owner := rfl
@[simp] theorem busWrite_port (c : Cfg) (a : RegAddr) (w : Payload) (s : State) : (busWrite c a w s).port = s.port := rfl
@[simp] theorem busWrite_xfer (c : Cfg) (a : RegAddr) (w : Payload) (s : State) : (busWrite c a w s).xfer = s.xfer := rfl
@[simp] theorem busWrite_env (c : Cfg) (a : RegAddr) (w : Payload) (s : State) : (busWrite c a w s).env = s.env.afterWrite := rfl
@[simp] theorem busWrite_trace (c : Cfg) (a : RegAddr) (w : Payload) (s : State) : (busWrite c a w s).trace = s.trace ++ writeSlots c a w s.env.nextWrite := rfl

/-! `memRead`: the read frame (`40_transport.md` R122). -/

@[simp] theorem memRead_rdata (c : Cfg) (a : RegAddr) (s : State) : (memRead c a s).rdata = containerOf (failedReadData s.env.draws) s.env.nextRead := rfl
@[simp] theorem memRead_v (c : Cfg) (a : RegAddr) (s : State) : (memRead c a s).v = s.v := rfl
@[simp] theorem memRead_vb (c : Cfg) (a : RegAddr) (s : State) : (memRead c a s).vb = s.vb := rfl
@[simp] theorem memRead_accs (c : Cfg) (a : RegAddr) (s : State) : (memRead c a s).accs = s.accs := rfl
@[simp] theorem memRead_acc (c : Cfg) (a : RegAddr) (s : State) : (memRead c a s).acc = s.acc := rfl
@[simp] theorem memRead_xok (c : Cfg) (a : RegAddr) (s : State) : (memRead c a s).xok = answered s.env.nextRead := rfl
@[simp] theorem memRead_vok (c : Cfg) (a : RegAddr) (s : State) : (memRead c a s).vok = s.vok := rfl
@[simp] theorem memRead_bok (c : Cfg) (a : RegAddr) (s : State) : (memRead c a s).bok = s.bok := rfl
@[simp] theorem memRead_aok (c : Cfg) (a : RegAddr) (s : State) : (memRead c a s).aok = s.aok := rfl
@[simp] theorem memRead_chkok (c : Cfg) (a : RegAddr) (s : State) : (memRead c a s).chkok = s.chkok := rfl
@[simp] theorem memRead_rate (c : Cfg) (a : RegAddr) (s : State) : (memRead c a s).rate = s.rate := rfl
@[simp] theorem memRead_mode (c : Cfg) (a : RegAddr) (s : State) : (memRead c a s).mode = s.mode := rfl
@[simp] theorem memRead_modev (c : Cfg) (a : RegAddr) (s : State) : (memRead c a s).modev = s.modev := rfl
@[simp] theorem memRead_cs (c : Cfg) (a : RegAddr) (s : State) : (memRead c a s).cs = false := rfl
@[simp] theorem memRead_conv (c : Cfg) (a : RegAddr) (s : State) : (memRead c a s).conv = s.conv := rfl
@[simp] theorem memRead_st (c : Cfg) (a : RegAddr) (s : State) : (memRead c a s).st = s.st.noteFrame (answered s.env.nextRead) := rfl
@[simp] theorem memRead_busy (c : Cfg) (a : RegAddr) (s : State) : (memRead c a s).busy = s.busy := rfl
@[simp] theorem memRead_op (c : Cfg) (a : RegAddr) (s : State) : (memRead c a s).op = s.op := rfl
@[simp] theorem memRead_ph (c : Cfg) (a : RegAddr) (s : State) : (memRead c a s).ph = s.ph := rfl
@[simp] theorem memRead_k (c : Cfg) (a : RegAddr) (s : State) : (memRead c a s).k = s.k := rfl
@[simp] theorem memRead_samples (c : Cfg) (a : RegAddr) (s : State) : (memRead c a s).samples = s.samples := rfl
@[simp] theorem memRead_p (c : Cfg) (a : RegAddr) (s : State) : (memRead c a s).p = s.p := rfl
@[simp] theorem memRead_seenhi (c : Cfg) (a : RegAddr) (s : State) : (memRead c a s).seenhi = s.seenhi := rfl
@[simp] theorem memRead_owner (c : Cfg) (a : RegAddr) (s : State) : (memRead c a s).owner = s.owner := rfl
@[simp] theorem memRead_port (c : Cfg) (a : RegAddr) (s : State) : (memRead c a s).port = s.port := rfl
@[simp] theorem memRead_xfer (c : Cfg) (a : RegAddr) (s : State) : (memRead c a s).xfer = s.xfer := rfl
@[simp] theorem memRead_env (c : Cfg) (a : RegAddr) (s : State) : (memRead c a s).env = s.env.afterRead := rfl
@[simp] theorem memRead_trace (c : Cfg) (a : RegAddr) (s : State) : (memRead c a s).trace = s.trace ++ [.csa] ++ readSlots c a s.env.nextRead ++ [.csd] := rfl

/-! `memWrite`: the write frame (`40_transport.md` R126). -/

@[simp] theorem memWrite_rdata (c : Cfg) (a : RegAddr) (w : Payload) (s : State) : (memWrite c a w s).rdata = s.rdata := rfl
@[simp] theorem memWrite_v (c : Cfg) (a : RegAddr) (w : Payload) (s : State) : (memWrite c a w s).v = s.v := rfl
@[simp] theorem memWrite_vb (c : Cfg) (a : RegAddr) (w : Payload) (s : State) : (memWrite c a w s).vb = s.vb := rfl
@[simp] theorem memWrite_accs (c : Cfg) (a : RegAddr) (w : Payload) (s : State) : (memWrite c a w s).accs = s.accs := rfl
@[simp] theorem memWrite_acc (c : Cfg) (a : RegAddr) (w : Payload) (s : State) : (memWrite c a w s).acc = s.acc := rfl
@[simp] theorem memWrite_xok (c : Cfg) (a : RegAddr) (w : Payload) (s : State) : (memWrite c a w s).xok = s.env.nextWrite := rfl
@[simp] theorem memWrite_vok (c : Cfg) (a : RegAddr) (w : Payload) (s : State) : (memWrite c a w s).vok = s.vok := rfl
@[simp] theorem memWrite_bok (c : Cfg) (a : RegAddr) (w : Payload) (s : State) : (memWrite c a w s).bok = s.bok := rfl
@[simp] theorem memWrite_aok (c : Cfg) (a : RegAddr) (w : Payload) (s : State) : (memWrite c a w s).aok = s.aok := rfl
@[simp] theorem memWrite_chkok (c : Cfg) (a : RegAddr) (w : Payload) (s : State) : (memWrite c a w s).chkok = s.chkok := rfl
@[simp] theorem memWrite_rate (c : Cfg) (a : RegAddr) (w : Payload) (s : State) : (memWrite c a w s).rate = s.rate := rfl
@[simp] theorem memWrite_mode (c : Cfg) (a : RegAddr) (w : Payload) (s : State) : (memWrite c a w s).mode = s.mode := rfl
@[simp] theorem memWrite_modev (c : Cfg) (a : RegAddr) (w : Payload) (s : State) : (memWrite c a w s).modev = s.modev := rfl
@[simp] theorem memWrite_cs (c : Cfg) (a : RegAddr) (w : Payload) (s : State) : (memWrite c a w s).cs = false := rfl
@[simp] theorem memWrite_conv (c : Cfg) (a : RegAddr) (w : Payload) (s : State) : (memWrite c a w s).conv = s.conv := rfl
@[simp] theorem memWrite_st (c : Cfg) (a : RegAddr) (w : Payload) (s : State) : (memWrite c a w s).st = s.st.noteFrame s.env.nextWrite := rfl
@[simp] theorem memWrite_busy (c : Cfg) (a : RegAddr) (w : Payload) (s : State) : (memWrite c a w s).busy = s.busy := rfl
@[simp] theorem memWrite_op (c : Cfg) (a : RegAddr) (w : Payload) (s : State) : (memWrite c a w s).op = s.op := rfl
@[simp] theorem memWrite_ph (c : Cfg) (a : RegAddr) (w : Payload) (s : State) : (memWrite c a w s).ph = s.ph := rfl
@[simp] theorem memWrite_k (c : Cfg) (a : RegAddr) (w : Payload) (s : State) : (memWrite c a w s).k = s.k := rfl
@[simp] theorem memWrite_samples (c : Cfg) (a : RegAddr) (w : Payload) (s : State) : (memWrite c a w s).samples = s.samples := rfl
@[simp] theorem memWrite_p (c : Cfg) (a : RegAddr) (w : Payload) (s : State) : (memWrite c a w s).p = s.p := rfl
@[simp] theorem memWrite_seenhi (c : Cfg) (a : RegAddr) (w : Payload) (s : State) : (memWrite c a w s).seenhi = s.seenhi := rfl
@[simp] theorem memWrite_owner (c : Cfg) (a : RegAddr) (w : Payload) (s : State) : (memWrite c a w s).owner = s.owner := rfl
@[simp] theorem memWrite_port (c : Cfg) (a : RegAddr) (w : Payload) (s : State) : (memWrite c a w s).port = s.port := rfl
@[simp] theorem memWrite_xfer (c : Cfg) (a : RegAddr) (w : Payload) (s : State) : (memWrite c a w s).xfer = s.xfer := rfl
@[simp] theorem memWrite_env (c : Cfg) (a : RegAddr) (w : Payload) (s : State) : (memWrite c a w s).env = s.env.afterWrite := rfl
@[simp] theorem memWrite_trace (c : Cfg) (a : RegAddr) (w : Payload) (s : State) : (memWrite c a w s).trace = s.trace ++ [.csa] ++ writeSlots c a w s.env.nextWrite ++ [.csd] := rfl

/-! `enterWait`: entering a wait phase (`10_state.md` R41). -/

@[simp] theorem enterWait_rdata (s : State) : (enterWait s).rdata = s.rdata := rfl
@[simp] theorem enterWait_v (s : State) : (enterWait s).v = s.v := rfl
@[simp] theorem enterWait_vb (s : State) : (enterWait s).vb = s.vb := rfl
@[simp] theorem enterWait_accs (s : State) : (enterWait s).accs = s.accs := rfl
@[simp] theorem enterWait_acc (s : State) : (enterWait s).acc = s.acc := rfl
@[simp] theorem enterWait_xok (s : State) : (enterWait s).xok = s.xok := rfl
@[simp] theorem enterWait_vok (s : State) : (enterWait s).vok = s.vok := rfl
@[simp] theorem enterWait_bok (s : State) : (enterWait s).bok = s.bok := rfl
@[simp] theorem enterWait_aok (s : State) : (enterWait s).aok = s.aok := rfl
@[simp] theorem enterWait_chkok (s : State) : (enterWait s).chkok = s.chkok := rfl
@[simp] theorem enterWait_rate (s : State) : (enterWait s).rate = s.rate := rfl
@[simp] theorem enterWait_mode (s : State) : (enterWait s).mode = s.mode := rfl
@[simp] theorem enterWait_modev (s : State) : (enterWait s).modev = s.modev := rfl
@[simp] theorem enterWait_cs (s : State) : (enterWait s).cs = s.cs := rfl
@[simp] theorem enterWait_conv (s : State) : (enterWait s).conv = s.conv := rfl
@[simp] theorem enterWait_st (s : State) : (enterWait s).st = s.st := rfl
@[simp] theorem enterWait_busy (s : State) : (enterWait s).busy = s.busy := rfl
@[simp] theorem enterWait_op (s : State) : (enterWait s).op = s.op := rfl
@[simp] theorem enterWait_ph (s : State) : (enterWait s).ph = s.ph := rfl
@[simp] theorem enterWait_k (s : State) : (enterWait s).k = s.k := rfl
@[simp] theorem enterWait_samples (s : State) : (enterWait s).samples = s.samples := rfl
@[simp] theorem enterWait_p (s : State) : (enterWait s).p = 0 := rfl
@[simp] theorem enterWait_seenhi (s : State) : (enterWait s).seenhi = false := rfl
@[simp] theorem enterWait_owner (s : State) : (enterWait s).owner = s.owner := rfl
@[simp] theorem enterWait_port (s : State) : (enterWait s).port = s.port := rfl
@[simp] theorem enterWait_xfer (s : State) : (enterWait s).xfer = s.xfer := rfl
@[simp] theorem enterWait_env (s : State) : (enterWait s).env = s.env := rfl
@[simp] theorem enterWait_trace (s : State) : (enterWait s).trace = s.trace := rfl

/-! `pollSample`: one ready sample (`41_channel_primitives.md` R150). -/

@[simp] theorem pollSample_rdata (s : State) : (pollSample s).rdata = s.rdata := rfl
@[simp] theorem pollSample_v (s : State) : (pollSample s).v = s.v := rfl
@[simp] theorem pollSample_vb (s : State) : (pollSample s).vb = s.vb := rfl
@[simp] theorem pollSample_accs (s : State) : (pollSample s).accs = s.accs := rfl
@[simp] theorem pollSample_acc (s : State) : (pollSample s).acc = s.acc := rfl
@[simp] theorem pollSample_xok (s : State) : (pollSample s).xok = s.xok := rfl
@[simp] theorem pollSample_vok (s : State) : (pollSample s).vok = s.vok := rfl
@[simp] theorem pollSample_bok (s : State) : (pollSample s).bok = s.bok := rfl
@[simp] theorem pollSample_aok (s : State) : (pollSample s).aok = s.aok := rfl
@[simp] theorem pollSample_chkok (s : State) : (pollSample s).chkok = s.chkok := rfl
@[simp] theorem pollSample_rate (s : State) : (pollSample s).rate = s.rate := rfl
@[simp] theorem pollSample_mode (s : State) : (pollSample s).mode = s.mode := rfl
@[simp] theorem pollSample_modev (s : State) : (pollSample s).modev = s.modev := rfl
@[simp] theorem pollSample_cs (s : State) : (pollSample s).cs = s.cs := rfl
@[simp] theorem pollSample_conv (s : State) : (pollSample s).conv = s.conv := rfl
@[simp] theorem pollSample_st (s : State) : (pollSample s).st = s.st := rfl
@[simp] theorem pollSample_busy (s : State) : (pollSample s).busy = s.busy := rfl
@[simp] theorem pollSample_op (s : State) : (pollSample s).op = s.op := rfl
@[simp] theorem pollSample_ph (s : State) : (pollSample s).ph = s.ph := rfl
@[simp] theorem pollSample_k (s : State) : (pollSample s).k = s.k := rfl
@[simp] theorem pollSample_samples (s : State) : (pollSample s).samples = s.samples := rfl
@[simp] theorem pollSample_p (s : State) : (pollSample s).p = s.p + 1 := rfl
@[simp] theorem pollSample_seenhi (s : State) : (pollSample s).seenhi = (s.seenhi || decide (s.env.nextLevel = .high)) := rfl
@[simp] theorem pollSample_owner (s : State) : (pollSample s).owner = s.owner := rfl
@[simp] theorem pollSample_port (s : State) : (pollSample s).port = s.port := rfl
@[simp] theorem pollSample_xfer (s : State) : (pollSample s).xfer = s.xfer := rfl
@[simp] theorem pollSample_env (s : State) : (pollSample s).env = s.env.afterPoll := rfl
@[simp] theorem pollSample_trace (s : State) : (pollSample s).trace = s.trace ++ [.poll s.env.nextLevel] := rfl

/-! `flagTimeout`: `flag ST.TIMEOUT` (`41_channel_primitives.md` R152). -/

@[simp] theorem flagTimeout_rdata (s : State) : (flagTimeout s).rdata = s.rdata := rfl
@[simp] theorem flagTimeout_v (s : State) : (flagTimeout s).v = s.v := rfl
@[simp] theorem flagTimeout_vb (s : State) : (flagTimeout s).vb = s.vb := rfl
@[simp] theorem flagTimeout_accs (s : State) : (flagTimeout s).accs = s.accs := rfl
@[simp] theorem flagTimeout_acc (s : State) : (flagTimeout s).acc = s.acc := rfl
@[simp] theorem flagTimeout_xok (s : State) : (flagTimeout s).xok = s.xok := rfl
@[simp] theorem flagTimeout_vok (s : State) : (flagTimeout s).vok = s.vok := rfl
@[simp] theorem flagTimeout_bok (s : State) : (flagTimeout s).bok = s.bok := rfl
@[simp] theorem flagTimeout_aok (s : State) : (flagTimeout s).aok = s.aok := rfl
@[simp] theorem flagTimeout_chkok (s : State) : (flagTimeout s).chkok = s.chkok := rfl
@[simp] theorem flagTimeout_rate (s : State) : (flagTimeout s).rate = s.rate := rfl
@[simp] theorem flagTimeout_mode (s : State) : (flagTimeout s).mode = s.mode := rfl
@[simp] theorem flagTimeout_modev (s : State) : (flagTimeout s).modev = s.modev := rfl
@[simp] theorem flagTimeout_cs (s : State) : (flagTimeout s).cs = s.cs := rfl
@[simp] theorem flagTimeout_conv (s : State) : (flagTimeout s).conv = s.conv := rfl
@[simp] theorem flagTimeout_st (s : State) : (flagTimeout s).st = s.st.noteTimeout := rfl
@[simp] theorem flagTimeout_busy (s : State) : (flagTimeout s).busy = s.busy := rfl
@[simp] theorem flagTimeout_op (s : State) : (flagTimeout s).op = s.op := rfl
@[simp] theorem flagTimeout_ph (s : State) : (flagTimeout s).ph = s.ph := rfl
@[simp] theorem flagTimeout_k (s : State) : (flagTimeout s).k = s.k := rfl
@[simp] theorem flagTimeout_samples (s : State) : (flagTimeout s).samples = s.samples := rfl
@[simp] theorem flagTimeout_p (s : State) : (flagTimeout s).p = s.p := rfl
@[simp] theorem flagTimeout_seenhi (s : State) : (flagTimeout s).seenhi = s.seenhi := rfl
@[simp] theorem flagTimeout_owner (s : State) : (flagTimeout s).owner = s.owner := rfl
@[simp] theorem flagTimeout_port (s : State) : (flagTimeout s).port = s.port := rfl
@[simp] theorem flagTimeout_xfer (s : State) : (flagTimeout s).xfer = s.xfer := rfl
@[simp] theorem flagTimeout_env (s : State) : (flagTimeout s).env = s.env := rfl
@[simp] theorem flagTimeout_trace (s : State) : (flagTimeout s).trace = s.trace := rfl

/-! `emitDone`: the completion response (`10_state.md` R45). -/

@[simp] theorem emitDone_rdata (s : State) : (emitDone s).rdata = s.rdata := rfl
@[simp] theorem emitDone_v (s : State) : (emitDone s).v = s.v := rfl
@[simp] theorem emitDone_vb (s : State) : (emitDone s).vb = s.vb := rfl
@[simp] theorem emitDone_accs (s : State) : (emitDone s).accs = s.accs := rfl
@[simp] theorem emitDone_acc (s : State) : (emitDone s).acc = s.acc := rfl
@[simp] theorem emitDone_xok (s : State) : (emitDone s).xok = s.xok := rfl
@[simp] theorem emitDone_vok (s : State) : (emitDone s).vok = s.vok := rfl
@[simp] theorem emitDone_bok (s : State) : (emitDone s).bok = s.bok := rfl
@[simp] theorem emitDone_aok (s : State) : (emitDone s).aok = s.aok := rfl
@[simp] theorem emitDone_chkok (s : State) : (emitDone s).chkok = s.chkok := rfl
@[simp] theorem emitDone_rate (s : State) : (emitDone s).rate = s.rate := rfl
@[simp] theorem emitDone_mode (s : State) : (emitDone s).mode = s.mode := rfl
@[simp] theorem emitDone_modev (s : State) : (emitDone s).modev = s.modev := rfl
@[simp] theorem emitDone_cs (s : State) : (emitDone s).cs = s.cs := rfl
@[simp] theorem emitDone_conv (s : State) : (emitDone s).conv = s.conv := rfl
@[simp] theorem emitDone_st (s : State) : (emitDone s).st = s.st := rfl
@[simp] theorem emitDone_busy (s : State) : (emitDone s).busy = s.busy := rfl
@[simp] theorem emitDone_op (s : State) : (emitDone s).op = s.op := rfl
@[simp] theorem emitDone_ph (s : State) : (emitDone s).ph = s.ph := rfl
@[simp] theorem emitDone_k (s : State) : (emitDone s).k = s.k := rfl
@[simp] theorem emitDone_samples (s : State) : (emitDone s).samples = s.samples := rfl
@[simp] theorem emitDone_p (s : State) : (emitDone s).p = s.p := rfl
@[simp] theorem emitDone_seenhi (s : State) : (emitDone s).seenhi = s.seenhi := rfl
@[simp] theorem emitDone_owner (s : State) : (emitDone s).owner = s.owner := rfl
@[simp] theorem emitDone_port (s : State) : (emitDone s).port = s.port := rfl
@[simp] theorem emitDone_xfer (s : State) : (emitDone s).xfer = s.xfer := rfl
@[simp] theorem emitDone_env (s : State) : (emitDone s).env = s.env := rfl
@[simp] theorem emitDone_trace (s : State) : (emitDone s).trace = s.trace ++ [.done s.owner s.resp] := rfl

/-! `toIdle`: the sequencer back to idle (`10_state.md` R42). -/

@[simp] theorem toIdle_rdata (s : State) : (toIdle s).rdata = s.rdata := rfl
@[simp] theorem toIdle_v (s : State) : (toIdle s).v = s.v := rfl
@[simp] theorem toIdle_vb (s : State) : (toIdle s).vb = s.vb := rfl
@[simp] theorem toIdle_accs (s : State) : (toIdle s).accs = s.accs := rfl
@[simp] theorem toIdle_acc (s : State) : (toIdle s).acc = s.acc := rfl
@[simp] theorem toIdle_xok (s : State) : (toIdle s).xok = s.xok := rfl
@[simp] theorem toIdle_vok (s : State) : (toIdle s).vok = s.vok := rfl
@[simp] theorem toIdle_bok (s : State) : (toIdle s).bok = s.bok := rfl
@[simp] theorem toIdle_aok (s : State) : (toIdle s).aok = s.aok := rfl
@[simp] theorem toIdle_chkok (s : State) : (toIdle s).chkok = s.chkok := rfl
@[simp] theorem toIdle_rate (s : State) : (toIdle s).rate = s.rate := rfl
@[simp] theorem toIdle_mode (s : State) : (toIdle s).mode = s.mode := rfl
@[simp] theorem toIdle_modev (s : State) : (toIdle s).modev = s.modev := rfl
@[simp] theorem toIdle_cs (s : State) : (toIdle s).cs = s.cs := rfl
@[simp] theorem toIdle_conv (s : State) : (toIdle s).conv = s.conv := rfl
@[simp] theorem toIdle_st (s : State) : (toIdle s).st = s.st := rfl
@[simp] theorem toIdle_busy (s : State) : (toIdle s).busy = false := rfl
@[simp] theorem toIdle_op (s : State) : (toIdle s).op = s.op := rfl
@[simp] theorem toIdle_ph (s : State) : (toIdle s).ph = 0 := rfl
@[simp] theorem toIdle_k (s : State) : (toIdle s).k = 0 := rfl
@[simp] theorem toIdle_samples (s : State) : (toIdle s).samples = 0#16 := rfl
@[simp] theorem toIdle_p (s : State) : (toIdle s).p = s.p := rfl
@[simp] theorem toIdle_seenhi (s : State) : (toIdle s).seenhi = s.seenhi := rfl
@[simp] theorem toIdle_owner (s : State) : (toIdle s).owner = s.owner := rfl
@[simp] theorem toIdle_port (s : State) : (toIdle s).port = s.port := rfl
@[simp] theorem toIdle_xfer (s : State) : (toIdle s).xfer = s.xfer := rfl
@[simp] theorem toIdle_env (s : State) : (toIdle s).env = s.env := rfl
@[simp] theorem toIdle_trace (s : State) : (toIdle s).trace = s.trace := rfl

/-! `complete`: the step that ends an operation (`10_state.md` R45). -/

@[simp] theorem complete_rdata (s : State) : (complete s).rdata = s.rdata := rfl
@[simp] theorem complete_v (s : State) : (complete s).v = s.v := rfl
@[simp] theorem complete_vb (s : State) : (complete s).vb = s.vb := rfl
@[simp] theorem complete_accs (s : State) : (complete s).accs = s.accs := rfl
@[simp] theorem complete_acc (s : State) : (complete s).acc = s.acc := rfl
@[simp] theorem complete_xok (s : State) : (complete s).xok = s.xok := rfl
@[simp] theorem complete_vok (s : State) : (complete s).vok = s.vok := rfl
@[simp] theorem complete_bok (s : State) : (complete s).bok = s.bok := rfl
@[simp] theorem complete_aok (s : State) : (complete s).aok = s.aok := rfl
@[simp] theorem complete_chkok (s : State) : (complete s).chkok = s.chkok := rfl
@[simp] theorem complete_rate (s : State) : (complete s).rate = s.rate := rfl
@[simp] theorem complete_mode (s : State) : (complete s).mode = s.mode := rfl
@[simp] theorem complete_modev (s : State) : (complete s).modev = s.modev := rfl
@[simp] theorem complete_cs (s : State) : (complete s).cs = s.cs := rfl
@[simp] theorem complete_conv (s : State) : (complete s).conv = s.conv := rfl
@[simp] theorem complete_st (s : State) : (complete s).st = s.st := rfl
@[simp] theorem complete_busy (s : State) : (complete s).busy = false := rfl
@[simp] theorem complete_op (s : State) : (complete s).op = s.op := rfl
@[simp] theorem complete_ph (s : State) : (complete s).ph = 0 := rfl
@[simp] theorem complete_k (s : State) : (complete s).k = 0 := rfl
@[simp] theorem complete_samples (s : State) : (complete s).samples = 0#16 := rfl
@[simp] theorem complete_p (s : State) : (complete s).p = s.p := rfl
@[simp] theorem complete_seenhi (s : State) : (complete s).seenhi = s.seenhi := rfl
@[simp] theorem complete_owner (s : State) : (complete s).owner = s.owner := rfl
@[simp] theorem complete_port (s : State) : (complete s).port = s.port := rfl
@[simp] theorem complete_xfer (s : State) : (complete s).xfer = s.xfer := rfl
@[simp] theorem complete_env (s : State) : (complete s).env = s.env := rfl
@[simp] theorem complete_trace (s : State) : (complete s).trace = s.trace ++ [.done s.owner s.resp] := rfl

/-! `latchCommand`: acceptance (`10_state.md` R43). -/

@[simp] theorem latchCommand_rdata (i : Instr) (s : State) : (latchCommand i s).rdata = s.rdata := rfl
@[simp] theorem latchCommand_v (i : Instr) (s : State) : (latchCommand i s).v = s.v := rfl
@[simp] theorem latchCommand_vb (i : Instr) (s : State) : (latchCommand i s).vb = s.vb := rfl
@[simp] theorem latchCommand_accs (i : Instr) (s : State) : (latchCommand i s).accs = s.accs := rfl
@[simp] theorem latchCommand_acc (i : Instr) (s : State) : (latchCommand i s).acc = s.acc := rfl
@[simp] theorem latchCommand_xok (i : Instr) (s : State) : (latchCommand i s).xok = s.xok := rfl
@[simp] theorem latchCommand_vok (i : Instr) (s : State) : (latchCommand i s).vok = s.vok := rfl
@[simp] theorem latchCommand_bok (i : Instr) (s : State) : (latchCommand i s).bok = s.bok := rfl
@[simp] theorem latchCommand_aok (i : Instr) (s : State) : (latchCommand i s).aok = s.aok := rfl
@[simp] theorem latchCommand_chkok (i : Instr) (s : State) : (latchCommand i s).chkok = s.chkok := rfl
@[simp] theorem latchCommand_rate (i : Instr) (s : State) : (latchCommand i s).rate = s.rate := rfl
@[simp] theorem latchCommand_mode (i : Instr) (s : State) : (latchCommand i s).mode = s.mode := rfl
@[simp] theorem latchCommand_modev (i : Instr) (s : State) : (latchCommand i s).modev = s.modev := rfl
@[simp] theorem latchCommand_cs (i : Instr) (s : State) : (latchCommand i s).cs = s.cs := rfl
@[simp] theorem latchCommand_conv (i : Instr) (s : State) : (latchCommand i s).conv = s.conv := rfl
@[simp] theorem latchCommand_st (i : Instr) (s : State) : (latchCommand i s).st = Status.clear := rfl
@[simp] theorem latchCommand_busy (i : Instr) (s : State) : (latchCommand i s).busy = true := rfl
@[simp] theorem latchCommand_op (i : Instr) (s : State) : (latchCommand i s).op = latchedOp i := rfl
@[simp] theorem latchCommand_ph (i : Instr) (s : State) : (latchCommand i s).ph = 0 := rfl
@[simp] theorem latchCommand_k (i : Instr) (s : State) : (latchCommand i s).k = 0 := rfl
@[simp] theorem latchCommand_samples (i : Instr) (s : State) : (latchCommand i s).samples = 0#16 := rfl
@[simp] theorem latchCommand_p (i : Instr) (s : State) : (latchCommand i s).p = s.p := rfl
@[simp] theorem latchCommand_seenhi (i : Instr) (s : State) : (latchCommand i s).seenhi = s.seenhi := rfl
@[simp] theorem latchCommand_owner (i : Instr) (s : State) : (latchCommand i s).owner = s.owner := rfl
@[simp] theorem latchCommand_port (i : Instr) (s : State) : (latchCommand i s).port = s.port := rfl
@[simp] theorem latchCommand_xfer (i : Instr) (s : State) : (latchCommand i s).xfer = s.xfer := rfl
@[simp] theorem latchCommand_env (i : Instr) (s : State) : (latchCommand i s).env = s.env := rfl
@[simp] theorem latchCommand_trace (i : Instr) (s : State) : (latchCommand i s).trace = s.trace := rfl

/-! `refuseCommand`: a refused command (`60_exceptions.md` R224). -/

@[simp] theorem refuseCommand_rdata (s : State) : (refuseCommand s).rdata = s.rdata := rfl
@[simp] theorem refuseCommand_v (s : State) : (refuseCommand s).v = s.v := rfl
@[simp] theorem refuseCommand_vb (s : State) : (refuseCommand s).vb = s.vb := rfl
@[simp] theorem refuseCommand_accs (s : State) : (refuseCommand s).accs = s.accs := rfl
@[simp] theorem refuseCommand_acc (s : State) : (refuseCommand s).acc = s.acc := rfl
@[simp] theorem refuseCommand_xok (s : State) : (refuseCommand s).xok = s.xok := rfl
@[simp] theorem refuseCommand_vok (s : State) : (refuseCommand s).vok = s.vok := rfl
@[simp] theorem refuseCommand_bok (s : State) : (refuseCommand s).bok = s.bok := rfl
@[simp] theorem refuseCommand_aok (s : State) : (refuseCommand s).aok = s.aok := rfl
@[simp] theorem refuseCommand_chkok (s : State) : (refuseCommand s).chkok = s.chkok := rfl
@[simp] theorem refuseCommand_rate (s : State) : (refuseCommand s).rate = s.rate := rfl
@[simp] theorem refuseCommand_mode (s : State) : (refuseCommand s).mode = s.mode := rfl
@[simp] theorem refuseCommand_modev (s : State) : (refuseCommand s).modev = s.modev := rfl
@[simp] theorem refuseCommand_cs (s : State) : (refuseCommand s).cs = s.cs := rfl
@[simp] theorem refuseCommand_conv (s : State) : (refuseCommand s).conv = s.conv := rfl
@[simp] theorem refuseCommand_st (s : State) : (refuseCommand s).st = Status.refused := rfl
@[simp] theorem refuseCommand_busy (s : State) : (refuseCommand s).busy = s.busy := rfl
@[simp] theorem refuseCommand_op (s : State) : (refuseCommand s).op = s.op := rfl
@[simp] theorem refuseCommand_ph (s : State) : (refuseCommand s).ph = s.ph := rfl
@[simp] theorem refuseCommand_k (s : State) : (refuseCommand s).k = s.k := rfl
@[simp] theorem refuseCommand_samples (s : State) : (refuseCommand s).samples = s.samples := rfl
@[simp] theorem refuseCommand_p (s : State) : (refuseCommand s).p = s.p := rfl
@[simp] theorem refuseCommand_seenhi (s : State) : (refuseCommand s).seenhi = s.seenhi := rfl
@[simp] theorem refuseCommand_owner (s : State) : (refuseCommand s).owner = s.owner := rfl
@[simp] theorem refuseCommand_port (s : State) : (refuseCommand s).port = s.port := rfl
@[simp] theorem refuseCommand_xfer (s : State) : (refuseCommand s).xfer = s.xfer := rfl
@[simp] theorem refuseCommand_env (s : State) : (refuseCommand s).env = s.env := rfl
@[simp] theorem refuseCommand_trace (s : State) : (refuseCommand s).trace = s.trace ++ [.done s.owner { s.resp with st := Status.refused }] := rfl

/-! `takeVolts`: the voltage of the container read (`41_channel_primitives.md` R158). -/

@[simp] theorem takeVolts_rdata (c : Cfg) (s : State) : (takeVolts c s).rdata = s.rdata := rfl
@[simp] theorem takeVolts_v (c : Cfg) (s : State) : (takeVolts c s).v = decodedVolts c s := rfl
@[simp] theorem takeVolts_vb (c : Cfg) (s : State) : (takeVolts c s).vb = s.vb := rfl
@[simp] theorem takeVolts_accs (c : Cfg) (s : State) : (takeVolts c s).accs = s.accs := rfl
@[simp] theorem takeVolts_acc (c : Cfg) (s : State) : (takeVolts c s).acc = s.acc := rfl
@[simp] theorem takeVolts_xok (c : Cfg) (s : State) : (takeVolts c s).xok = s.xok := rfl
@[simp] theorem takeVolts_vok (c : Cfg) (s : State) : (takeVolts c s).vok = s.xok := rfl
@[simp] theorem takeVolts_bok (c : Cfg) (s : State) : (takeVolts c s).bok = s.bok := rfl
@[simp] theorem takeVolts_aok (c : Cfg) (s : State) : (takeVolts c s).aok = s.aok := rfl
@[simp] theorem takeVolts_chkok (c : Cfg) (s : State) : (takeVolts c s).chkok = s.chkok := rfl
@[simp] theorem takeVolts_rate (c : Cfg) (s : State) : (takeVolts c s).rate = s.rate := rfl
@[simp] theorem takeVolts_mode (c : Cfg) (s : State) : (takeVolts c s).mode = s.mode := rfl
@[simp] theorem takeVolts_modev (c : Cfg) (s : State) : (takeVolts c s).modev = s.modev := rfl
@[simp] theorem takeVolts_cs (c : Cfg) (s : State) : (takeVolts c s).cs = s.cs := rfl
@[simp] theorem takeVolts_conv (c : Cfg) (s : State) : (takeVolts c s).conv = s.conv := rfl
@[simp] theorem takeVolts_st (c : Cfg) (s : State) : (takeVolts c s).st = s.st := rfl
@[simp] theorem takeVolts_busy (c : Cfg) (s : State) : (takeVolts c s).busy = s.busy := rfl
@[simp] theorem takeVolts_op (c : Cfg) (s : State) : (takeVolts c s).op = s.op := rfl
@[simp] theorem takeVolts_ph (c : Cfg) (s : State) : (takeVolts c s).ph = s.ph := rfl
@[simp] theorem takeVolts_k (c : Cfg) (s : State) : (takeVolts c s).k = s.k := rfl
@[simp] theorem takeVolts_samples (c : Cfg) (s : State) : (takeVolts c s).samples = s.samples := rfl
@[simp] theorem takeVolts_p (c : Cfg) (s : State) : (takeVolts c s).p = s.p := rfl
@[simp] theorem takeVolts_seenhi (c : Cfg) (s : State) : (takeVolts c s).seenhi = s.seenhi := rfl
@[simp] theorem takeVolts_owner (c : Cfg) (s : State) : (takeVolts c s).owner = s.owner := rfl
@[simp] theorem takeVolts_port (c : Cfg) (s : State) : (takeVolts c s).port = s.port := rfl
@[simp] theorem takeVolts_xfer (c : Cfg) (s : State) : (takeVolts c s).xfer = s.xfer := rfl
@[simp] theorem takeVolts_env (c : Cfg) (s : State) : (takeVolts c s).env = s.env := rfl
@[simp] theorem takeVolts_trace (c : Cfg) (s : State) : (takeVolts c s).trace = s.trace := rfl

/-! `takeMain`: the main context's word leaves the port. -/

@[simp] theorem takeMain_rdata (s : State) : (takeMain s).rdata = s.rdata := rfl
@[simp] theorem takeMain_v (s : State) : (takeMain s).v = s.v := rfl
@[simp] theorem takeMain_vb (s : State) : (takeMain s).vb = s.vb := rfl
@[simp] theorem takeMain_accs (s : State) : (takeMain s).accs = s.accs := rfl
@[simp] theorem takeMain_acc (s : State) : (takeMain s).acc = s.acc := rfl
@[simp] theorem takeMain_xok (s : State) : (takeMain s).xok = s.xok := rfl
@[simp] theorem takeMain_vok (s : State) : (takeMain s).vok = s.vok := rfl
@[simp] theorem takeMain_bok (s : State) : (takeMain s).bok = s.bok := rfl
@[simp] theorem takeMain_aok (s : State) : (takeMain s).aok = s.aok := rfl
@[simp] theorem takeMain_chkok (s : State) : (takeMain s).chkok = s.chkok := rfl
@[simp] theorem takeMain_rate (s : State) : (takeMain s).rate = s.rate := rfl
@[simp] theorem takeMain_mode (s : State) : (takeMain s).mode = s.mode := rfl
@[simp] theorem takeMain_modev (s : State) : (takeMain s).modev = s.modev := rfl
@[simp] theorem takeMain_cs (s : State) : (takeMain s).cs = s.cs := rfl
@[simp] theorem takeMain_conv (s : State) : (takeMain s).conv = s.conv := rfl
@[simp] theorem takeMain_st (s : State) : (takeMain s).st = s.st := rfl
@[simp] theorem takeMain_busy (s : State) : (takeMain s).busy = s.busy := rfl
@[simp] theorem takeMain_op (s : State) : (takeMain s).op = s.op := rfl
@[simp] theorem takeMain_ph (s : State) : (takeMain s).ph = s.ph := rfl
@[simp] theorem takeMain_k (s : State) : (takeMain s).k = s.k := rfl
@[simp] theorem takeMain_samples (s : State) : (takeMain s).samples = s.samples := rfl
@[simp] theorem takeMain_p (s : State) : (takeMain s).p = s.p := rfl
@[simp] theorem takeMain_seenhi (s : State) : (takeMain s).seenhi = s.seenhi := rfl
@[simp] theorem takeMain_owner (s : State) : (takeMain s).owner = .main := rfl
@[simp] theorem takeMain_port (s : State) : (takeMain s).port = { s.port with main := s.port.main.tail } := rfl
@[simp] theorem takeMain_xfer (s : State) : (takeMain s).xfer = s.xfer := rfl
@[simp] theorem takeMain_env (s : State) : (takeMain s).env = s.env := rfl
@[simp] theorem takeMain_trace (s : State) : (takeMain s).trace = s.trace := rfl

/-! `takeTimer`: the timer context's word leaves the port. -/

@[simp] theorem takeTimer_rdata (s : State) : (takeTimer s).rdata = s.rdata := rfl
@[simp] theorem takeTimer_v (s : State) : (takeTimer s).v = s.v := rfl
@[simp] theorem takeTimer_vb (s : State) : (takeTimer s).vb = s.vb := rfl
@[simp] theorem takeTimer_accs (s : State) : (takeTimer s).accs = s.accs := rfl
@[simp] theorem takeTimer_acc (s : State) : (takeTimer s).acc = s.acc := rfl
@[simp] theorem takeTimer_xok (s : State) : (takeTimer s).xok = s.xok := rfl
@[simp] theorem takeTimer_vok (s : State) : (takeTimer s).vok = s.vok := rfl
@[simp] theorem takeTimer_bok (s : State) : (takeTimer s).bok = s.bok := rfl
@[simp] theorem takeTimer_aok (s : State) : (takeTimer s).aok = s.aok := rfl
@[simp] theorem takeTimer_chkok (s : State) : (takeTimer s).chkok = s.chkok := rfl
@[simp] theorem takeTimer_rate (s : State) : (takeTimer s).rate = s.rate := rfl
@[simp] theorem takeTimer_mode (s : State) : (takeTimer s).mode = s.mode := rfl
@[simp] theorem takeTimer_modev (s : State) : (takeTimer s).modev = s.modev := rfl
@[simp] theorem takeTimer_cs (s : State) : (takeTimer s).cs = s.cs := rfl
@[simp] theorem takeTimer_conv (s : State) : (takeTimer s).conv = s.conv := rfl
@[simp] theorem takeTimer_st (s : State) : (takeTimer s).st = s.st := rfl
@[simp] theorem takeTimer_busy (s : State) : (takeTimer s).busy = s.busy := rfl
@[simp] theorem takeTimer_op (s : State) : (takeTimer s).op = s.op := rfl
@[simp] theorem takeTimer_ph (s : State) : (takeTimer s).ph = s.ph := rfl
@[simp] theorem takeTimer_k (s : State) : (takeTimer s).k = s.k := rfl
@[simp] theorem takeTimer_samples (s : State) : (takeTimer s).samples = s.samples := rfl
@[simp] theorem takeTimer_p (s : State) : (takeTimer s).p = s.p := rfl
@[simp] theorem takeTimer_seenhi (s : State) : (takeTimer s).seenhi = s.seenhi := rfl
@[simp] theorem takeTimer_owner (s : State) : (takeTimer s).owner = .timer := rfl
@[simp] theorem takeTimer_port (s : State) : (takeTimer s).port = { s.port with timer := s.port.timer.tail } := rfl
@[simp] theorem takeTimer_xfer (s : State) : (takeTimer s).xfer = s.xfer := rfl
@[simp] theorem takeTimer_env (s : State) : (takeTimer s).env = s.env := rfl
@[simp] theorem takeTimer_trace (s : State) : (takeTimer s).trace = s.trace := rfl

/-! `takeFrame`: the frame asked of the transport is taken. -/

@[simp] theorem takeFrame_rdata (s : State) : (takeFrame s).rdata = s.rdata := rfl
@[simp] theorem takeFrame_v (s : State) : (takeFrame s).v = s.v := rfl
@[simp] theorem takeFrame_vb (s : State) : (takeFrame s).vb = s.vb := rfl
@[simp] theorem takeFrame_accs (s : State) : (takeFrame s).accs = s.accs := rfl
@[simp] theorem takeFrame_acc (s : State) : (takeFrame s).acc = s.acc := rfl
@[simp] theorem takeFrame_xok (s : State) : (takeFrame s).xok = s.xok := rfl
@[simp] theorem takeFrame_vok (s : State) : (takeFrame s).vok = s.vok := rfl
@[simp] theorem takeFrame_bok (s : State) : (takeFrame s).bok = s.bok := rfl
@[simp] theorem takeFrame_aok (s : State) : (takeFrame s).aok = s.aok := rfl
@[simp] theorem takeFrame_chkok (s : State) : (takeFrame s).chkok = s.chkok := rfl
@[simp] theorem takeFrame_rate (s : State) : (takeFrame s).rate = s.rate := rfl
@[simp] theorem takeFrame_mode (s : State) : (takeFrame s).mode = s.mode := rfl
@[simp] theorem takeFrame_modev (s : State) : (takeFrame s).modev = s.modev := rfl
@[simp] theorem takeFrame_cs (s : State) : (takeFrame s).cs = s.cs := rfl
@[simp] theorem takeFrame_conv (s : State) : (takeFrame s).conv = s.conv := rfl
@[simp] theorem takeFrame_st (s : State) : (takeFrame s).st = s.st := rfl
@[simp] theorem takeFrame_busy (s : State) : (takeFrame s).busy = s.busy := rfl
@[simp] theorem takeFrame_op (s : State) : (takeFrame s).op = s.op := rfl
@[simp] theorem takeFrame_ph (s : State) : (takeFrame s).ph = s.ph := rfl
@[simp] theorem takeFrame_k (s : State) : (takeFrame s).k = s.k := rfl
@[simp] theorem takeFrame_samples (s : State) : (takeFrame s).samples = s.samples := rfl
@[simp] theorem takeFrame_p (s : State) : (takeFrame s).p = s.p := rfl
@[simp] theorem takeFrame_seenhi (s : State) : (takeFrame s).seenhi = s.seenhi := rfl
@[simp] theorem takeFrame_owner (s : State) : (takeFrame s).owner = s.owner := rfl
@[simp] theorem takeFrame_port (s : State) : (takeFrame s).port = s.port := rfl
@[simp] theorem takeFrame_xfer (s : State) : (takeFrame s).xfer = none := rfl
@[simp] theorem takeFrame_env (s : State) : (takeFrame s).env = s.env := rfl
@[simp] theorem takeFrame_trace (s : State) : (takeFrame s).trace = s.trace := rfl

/-! `storeChannel`: the channel's result (`42_acquisition.md` R191). -/

@[simp] theorem storeChannel_rdata (s : State) : (storeChannel s).rdata = s.rdata := rfl
@[simp] theorem storeChannel_v (s : State) : (storeChannel s).v = s.v := rfl
@[simp] theorem storeChannel_vb (s : State) : (storeChannel s).vb = s.vb.set s.k s.v := rfl
@[simp] theorem storeChannel_accs (s : State) : (storeChannel s).accs = s.accs := rfl
@[simp] theorem storeChannel_acc (s : State) : (storeChannel s).acc = s.acc := rfl
@[simp] theorem storeChannel_xok (s : State) : (storeChannel s).xok = s.xok := rfl
@[simp] theorem storeChannel_vok (s : State) : (storeChannel s).vok = s.vok := rfl
@[simp] theorem storeChannel_bok (s : State) : (storeChannel s).bok = s.bok.set s.k s.vok := rfl
@[simp] theorem storeChannel_aok (s : State) : (storeChannel s).aok = s.aok := rfl
@[simp] theorem storeChannel_chkok (s : State) : (storeChannel s).chkok = s.chkok := rfl
@[simp] theorem storeChannel_rate (s : State) : (storeChannel s).rate = s.rate := rfl
@[simp] theorem storeChannel_mode (s : State) : (storeChannel s).mode = s.mode := rfl
@[simp] theorem storeChannel_modev (s : State) : (storeChannel s).modev = s.modev := rfl
@[simp] theorem storeChannel_cs (s : State) : (storeChannel s).cs = s.cs := rfl
@[simp] theorem storeChannel_conv (s : State) : (storeChannel s).conv = s.conv := rfl
@[simp] theorem storeChannel_st (s : State) : (storeChannel s).st = s.st := rfl
@[simp] theorem storeChannel_busy (s : State) : (storeChannel s).busy = s.busy := rfl
@[simp] theorem storeChannel_op (s : State) : (storeChannel s).op = s.op := rfl
@[simp] theorem storeChannel_ph (s : State) : (storeChannel s).ph = s.ph := rfl
@[simp] theorem storeChannel_k (s : State) : (storeChannel s).k = s.k := rfl
@[simp] theorem storeChannel_samples (s : State) : (storeChannel s).samples = s.samples := rfl
@[simp] theorem storeChannel_p (s : State) : (storeChannel s).p = s.p := rfl
@[simp] theorem storeChannel_seenhi (s : State) : (storeChannel s).seenhi = s.seenhi := rfl
@[simp] theorem storeChannel_owner (s : State) : (storeChannel s).owner = s.owner := rfl
@[simp] theorem storeChannel_port (s : State) : (storeChannel s).port = s.port := rfl
@[simp] theorem storeChannel_xfer (s : State) : (storeChannel s).xfer = s.xfer := rfl
@[simp] theorem storeChannel_env (s : State) : (storeChannel s).env = s.env := rfl
@[simp] theorem storeChannel_trace (s : State) : (storeChannel s).trace = s.trace := rfl

/-! `nextChannel`: the next channel (`42_acquisition.md` R191). -/

@[simp] theorem nextChannel_rdata (s : State) : (nextChannel s).rdata = s.rdata := rfl
@[simp] theorem nextChannel_v (s : State) : (nextChannel s).v = s.v := rfl
@[simp] theorem nextChannel_vb (s : State) : (nextChannel s).vb = s.vb := rfl
@[simp] theorem nextChannel_accs (s : State) : (nextChannel s).accs = s.accs := rfl
@[simp] theorem nextChannel_acc (s : State) : (nextChannel s).acc = s.acc := rfl
@[simp] theorem nextChannel_xok (s : State) : (nextChannel s).xok = s.xok := rfl
@[simp] theorem nextChannel_vok (s : State) : (nextChannel s).vok = s.vok := rfl
@[simp] theorem nextChannel_bok (s : State) : (nextChannel s).bok = s.bok := rfl
@[simp] theorem nextChannel_aok (s : State) : (nextChannel s).aok = s.aok := rfl
@[simp] theorem nextChannel_chkok (s : State) : (nextChannel s).chkok = s.chkok := rfl
@[simp] theorem nextChannel_rate (s : State) : (nextChannel s).rate = s.rate := rfl
@[simp] theorem nextChannel_mode (s : State) : (nextChannel s).mode = s.mode := rfl
@[simp] theorem nextChannel_modev (s : State) : (nextChannel s).modev = s.modev := rfl
@[simp] theorem nextChannel_cs (s : State) : (nextChannel s).cs = s.cs := rfl
@[simp] theorem nextChannel_conv (s : State) : (nextChannel s).conv = s.conv := rfl
@[simp] theorem nextChannel_st (s : State) : (nextChannel s).st = s.st := rfl
@[simp] theorem nextChannel_busy (s : State) : (nextChannel s).busy = s.busy := rfl
@[simp] theorem nextChannel_op (s : State) : (nextChannel s).op = s.op := rfl
@[simp] theorem nextChannel_ph (s : State) : (nextChannel s).ph = 0 := rfl
@[simp] theorem nextChannel_k (s : State) : (nextChannel s).k = s.k + 1 := rfl
@[simp] theorem nextChannel_samples (s : State) : (nextChannel s).samples = 0#16 := rfl
@[simp] theorem nextChannel_p (s : State) : (nextChannel s).p = s.p := rfl
@[simp] theorem nextChannel_seenhi (s : State) : (nextChannel s).seenhi = s.seenhi := rfl
@[simp] theorem nextChannel_owner (s : State) : (nextChannel s).owner = s.owner := rfl
@[simp] theorem nextChannel_port (s : State) : (nextChannel s).port = s.port := rfl
@[simp] theorem nextChannel_xfer (s : State) : (nextChannel s).xfer = s.xfer := rfl
@[simp] theorem nextChannel_env (s : State) : (nextChannel s).env = s.env := rfl
@[simp] theorem nextChannel_trace (s : State) : (nextChannel s).trace = s.trace := rfl

/-! `nextSample`: the next sample or the finish phase (`42_acquisition.md` R191). -/

@[simp] theorem nextSample_rdata (q : Acq) (s : State) : (nextSample q s).rdata = s.rdata := rfl
@[simp] theorem nextSample_v (q : Acq) (s : State) : (nextSample q s).v = s.v := rfl
@[simp] theorem nextSample_vb (q : Acq) (s : State) : (nextSample q s).vb = s.vb := rfl
@[simp] theorem nextSample_accs (q : Acq) (s : State) : (nextSample q s).accs = s.accs := rfl
@[simp] theorem nextSample_acc (q : Acq) (s : State) : (nextSample q s).acc = s.acc := rfl
@[simp] theorem nextSample_xok (q : Acq) (s : State) : (nextSample q s).xok = s.xok := rfl
@[simp] theorem nextSample_vok (q : Acq) (s : State) : (nextSample q s).vok = s.vok := rfl
@[simp] theorem nextSample_bok (q : Acq) (s : State) : (nextSample q s).bok = s.bok := rfl
@[simp] theorem nextSample_aok (q : Acq) (s : State) : (nextSample q s).aok = s.aok := rfl
@[simp] theorem nextSample_chkok (q : Acq) (s : State) : (nextSample q s).chkok = s.chkok := rfl
@[simp] theorem nextSample_rate (q : Acq) (s : State) : (nextSample q s).rate = s.rate := rfl
@[simp] theorem nextSample_mode (q : Acq) (s : State) : (nextSample q s).mode = s.mode := rfl
@[simp] theorem nextSample_modev (q : Acq) (s : State) : (nextSample q s).modev = s.modev := rfl
@[simp] theorem nextSample_cs (q : Acq) (s : State) : (nextSample q s).cs = s.cs := rfl
@[simp] theorem nextSample_conv (q : Acq) (s : State) : (nextSample q s).conv = s.conv := rfl
@[simp] theorem nextSample_st (q : Acq) (s : State) : (nextSample q s).st = s.st := rfl
@[simp] theorem nextSample_busy (q : Acq) (s : State) : (nextSample q s).busy = s.busy := rfl
@[simp] theorem nextSample_op (q : Acq) (s : State) : (nextSample q s).op = s.op := rfl
@[simp] theorem nextSample_ph (q : Acq) (s : State) : (nextSample q s).ph = (if s.samples < q.n then 1 else 6) := rfl
@[simp] theorem nextSample_k (q : Acq) (s : State) : (nextSample q s).k = s.k := rfl
@[simp] theorem nextSample_samples (q : Acq) (s : State) : (nextSample q s).samples = s.samples := rfl
@[simp] theorem nextSample_p (q : Acq) (s : State) : (nextSample q s).p = s.p := rfl
@[simp] theorem nextSample_seenhi (q : Acq) (s : State) : (nextSample q s).seenhi = s.seenhi := rfl
@[simp] theorem nextSample_owner (q : Acq) (s : State) : (nextSample q s).owner = s.owner := rfl
@[simp] theorem nextSample_port (q : Acq) (s : State) : (nextSample q s).port = s.port := rfl
@[simp] theorem nextSample_xfer (q : Acq) (s : State) : (nextSample q s).xfer = s.xfer := rfl
@[simp] theorem nextSample_env (q : Acq) (s : State) : (nextSample q s).env = s.env := rfl
@[simp] theorem nextSample_trace (q : Acq) (s : State) : (nextSample q s).trace = s.trace := rfl

/-! `takeSentinel`: the sentinel sample (`42_acquisition.md` R190). -/

@[simp] theorem takeSentinel_rdata (s : State) : (takeSentinel s).rdata = s.rdata := rfl
@[simp] theorem takeSentinel_v (s : State) : (takeSentinel s).v = sentinel := rfl
@[simp] theorem takeSentinel_vb (s : State) : (takeSentinel s).vb = s.vb := rfl
@[simp] theorem takeSentinel_accs (s : State) : (takeSentinel s).accs = s.accs := rfl
@[simp] theorem takeSentinel_acc (s : State) : (takeSentinel s).acc = s.acc := rfl
@[simp] theorem takeSentinel_xok (s : State) : (takeSentinel s).xok = s.xok := rfl
@[simp] theorem takeSentinel_vok (s : State) : (takeSentinel s).vok = false := rfl
@[simp] theorem takeSentinel_bok (s : State) : (takeSentinel s).bok = s.bok := rfl
@[simp] theorem takeSentinel_aok (s : State) : (takeSentinel s).aok = s.aok := rfl
@[simp] theorem takeSentinel_chkok (s : State) : (takeSentinel s).chkok = s.chkok := rfl
@[simp] theorem takeSentinel_rate (s : State) : (takeSentinel s).rate = s.rate := rfl
@[simp] theorem takeSentinel_mode (s : State) : (takeSentinel s).mode = s.mode := rfl
@[simp] theorem takeSentinel_modev (s : State) : (takeSentinel s).modev = s.modev := rfl
@[simp] theorem takeSentinel_cs (s : State) : (takeSentinel s).cs = s.cs := rfl
@[simp] theorem takeSentinel_conv (s : State) : (takeSentinel s).conv = s.conv := rfl
@[simp] theorem takeSentinel_st (s : State) : (takeSentinel s).st = s.st := rfl
@[simp] theorem takeSentinel_busy (s : State) : (takeSentinel s).busy = s.busy := rfl
@[simp] theorem takeSentinel_op (s : State) : (takeSentinel s).op = s.op := rfl
@[simp] theorem takeSentinel_ph (s : State) : (takeSentinel s).ph = s.ph := rfl
@[simp] theorem takeSentinel_k (s : State) : (takeSentinel s).k = s.k := rfl
@[simp] theorem takeSentinel_samples (s : State) : (takeSentinel s).samples = s.samples := rfl
@[simp] theorem takeSentinel_p (s : State) : (takeSentinel s).p = s.p := rfl
@[simp] theorem takeSentinel_seenhi (s : State) : (takeSentinel s).seenhi = s.seenhi := rfl
@[simp] theorem takeSentinel_owner (s : State) : (takeSentinel s).owner = s.owner := rfl
@[simp] theorem takeSentinel_port (s : State) : (takeSentinel s).port = s.port := rfl
@[simp] theorem takeSentinel_xfer (s : State) : (takeSentinel s).xfer = s.xfer := rfl
@[simp] theorem takeSentinel_env (s : State) : (takeSentinel s).env = s.env := rfl
@[simp] theorem takeSentinel_trace (s : State) : (takeSentinel s).trace = s.trace := rfl

/-! `takeAverage`: the average (`42_acquisition.md` R191). -/

@[simp] theorem takeAverage_rdata (q : Acq) (s : State) : (takeAverage q s).rdata = s.rdata := rfl
@[simp] theorem takeAverage_v (q : Acq) (s : State) : (takeAverage q s).v = f32Div (accumulator q s) (f32OfInt q.n.toNat) := rfl
@[simp] theorem takeAverage_vb (q : Acq) (s : State) : (takeAverage q s).vb = s.vb := rfl
@[simp] theorem takeAverage_accs (q : Acq) (s : State) : (takeAverage q s).accs = s.accs := rfl
@[simp] theorem takeAverage_acc (q : Acq) (s : State) : (takeAverage q s).acc = s.acc := rfl
@[simp] theorem takeAverage_xok (q : Acq) (s : State) : (takeAverage q s).xok = s.xok := rfl
@[simp] theorem takeAverage_vok (q : Acq) (s : State) : (takeAverage q s).vok = s.aok := rfl
@[simp] theorem takeAverage_bok (q : Acq) (s : State) : (takeAverage q s).bok = s.bok := rfl
@[simp] theorem takeAverage_aok (q : Acq) (s : State) : (takeAverage q s).aok = s.aok := rfl
@[simp] theorem takeAverage_chkok (q : Acq) (s : State) : (takeAverage q s).chkok = s.chkok := rfl
@[simp] theorem takeAverage_rate (q : Acq) (s : State) : (takeAverage q s).rate = s.rate := rfl
@[simp] theorem takeAverage_mode (q : Acq) (s : State) : (takeAverage q s).mode = s.mode := rfl
@[simp] theorem takeAverage_modev (q : Acq) (s : State) : (takeAverage q s).modev = s.modev := rfl
@[simp] theorem takeAverage_cs (q : Acq) (s : State) : (takeAverage q s).cs = s.cs := rfl
@[simp] theorem takeAverage_conv (q : Acq) (s : State) : (takeAverage q s).conv = s.conv := rfl
@[simp] theorem takeAverage_st (q : Acq) (s : State) : (takeAverage q s).st = s.st := rfl
@[simp] theorem takeAverage_busy (q : Acq) (s : State) : (takeAverage q s).busy = s.busy := rfl
@[simp] theorem takeAverage_op (q : Acq) (s : State) : (takeAverage q s).op = s.op := rfl
@[simp] theorem takeAverage_ph (q : Acq) (s : State) : (takeAverage q s).ph = s.ph := rfl
@[simp] theorem takeAverage_k (q : Acq) (s : State) : (takeAverage q s).k = s.k := rfl
@[simp] theorem takeAverage_samples (q : Acq) (s : State) : (takeAverage q s).samples = s.samples := rfl
@[simp] theorem takeAverage_p (q : Acq) (s : State) : (takeAverage q s).p = s.p := rfl
@[simp] theorem takeAverage_seenhi (q : Acq) (s : State) : (takeAverage q s).seenhi = s.seenhi := rfl
@[simp] theorem takeAverage_owner (q : Acq) (s : State) : (takeAverage q s).owner = s.owner := rfl
@[simp] theorem takeAverage_port (q : Acq) (s : State) : (takeAverage q s).port = s.port := rfl
@[simp] theorem takeAverage_xfer (q : Acq) (s : State) : (takeAverage q s).xfer = s.xfer := rfl
@[simp] theorem takeAverage_env (q : Acq) (s : State) : (takeAverage q s).env = s.env := rfl
@[simp] theorem takeAverage_trace (q : Acq) (s : State) : (takeAverage q s).trace = s.trace := rfl

/-! `goto`: `PH <- n`. -/

@[simp] theorem goto_rdata (n : Fin 7) (s : State) : (goto n s).rdata = s.rdata := rfl
@[simp] theorem goto_v (n : Fin 7) (s : State) : (goto n s).v = s.v := rfl
@[simp] theorem goto_vb (n : Fin 7) (s : State) : (goto n s).vb = s.vb := rfl
@[simp] theorem goto_accs (n : Fin 7) (s : State) : (goto n s).accs = s.accs := rfl
@[simp] theorem goto_acc (n : Fin 7) (s : State) : (goto n s).acc = s.acc := rfl
@[simp] theorem goto_xok (n : Fin 7) (s : State) : (goto n s).xok = s.xok := rfl
@[simp] theorem goto_vok (n : Fin 7) (s : State) : (goto n s).vok = s.vok := rfl
@[simp] theorem goto_bok (n : Fin 7) (s : State) : (goto n s).bok = s.bok := rfl
@[simp] theorem goto_aok (n : Fin 7) (s : State) : (goto n s).aok = s.aok := rfl
@[simp] theorem goto_chkok (n : Fin 7) (s : State) : (goto n s).chkok = s.chkok := rfl
@[simp] theorem goto_rate (n : Fin 7) (s : State) : (goto n s).rate = s.rate := rfl
@[simp] theorem goto_mode (n : Fin 7) (s : State) : (goto n s).mode = s.mode := rfl
@[simp] theorem goto_modev (n : Fin 7) (s : State) : (goto n s).modev = s.modev := rfl
@[simp] theorem goto_cs (n : Fin 7) (s : State) : (goto n s).cs = s.cs := rfl
@[simp] theorem goto_conv (n : Fin 7) (s : State) : (goto n s).conv = s.conv := rfl
@[simp] theorem goto_st (n : Fin 7) (s : State) : (goto n s).st = s.st := rfl
@[simp] theorem goto_busy (n : Fin 7) (s : State) : (goto n s).busy = s.busy := rfl
@[simp] theorem goto_op (n : Fin 7) (s : State) : (goto n s).op = s.op := rfl
@[simp] theorem goto_ph (n : Fin 7) (s : State) : (goto n s).ph = n := rfl
@[simp] theorem goto_k (n : Fin 7) (s : State) : (goto n s).k = s.k := rfl
@[simp] theorem goto_samples (n : Fin 7) (s : State) : (goto n s).samples = s.samples := rfl
@[simp] theorem goto_p (n : Fin 7) (s : State) : (goto n s).p = s.p := rfl
@[simp] theorem goto_seenhi (n : Fin 7) (s : State) : (goto n s).seenhi = s.seenhi := rfl
@[simp] theorem goto_owner (n : Fin 7) (s : State) : (goto n s).owner = s.owner := rfl
@[simp] theorem goto_port (n : Fin 7) (s : State) : (goto n s).port = s.port := rfl
@[simp] theorem goto_xfer (n : Fin 7) (s : State) : (goto n s).xfer = s.xfer := rfl
@[simp] theorem goto_env (n : Fin 7) (s : State) : (goto n s).env = s.env := rfl
@[simp] theorem goto_trace (n : Fin 7) (s : State) : (goto n s).trace = s.trace := rfl

/-! `noteMode`: the mode shadow (`43_config_system.md` R201). -/

@[simp] theorem noteMode_rdata (m : BitVec 2) (s : State) : (noteMode m s).rdata = s.rdata := rfl
@[simp] theorem noteMode_v (m : BitVec 2) (s : State) : (noteMode m s).v = s.v := rfl
@[simp] theorem noteMode_vb (m : BitVec 2) (s : State) : (noteMode m s).vb = s.vb := rfl
@[simp] theorem noteMode_accs (m : BitVec 2) (s : State) : (noteMode m s).accs = s.accs := rfl
@[simp] theorem noteMode_acc (m : BitVec 2) (s : State) : (noteMode m s).acc = s.acc := rfl
@[simp] theorem noteMode_xok (m : BitVec 2) (s : State) : (noteMode m s).xok = s.xok := rfl
@[simp] theorem noteMode_vok (m : BitVec 2) (s : State) : (noteMode m s).vok = s.vok := rfl
@[simp] theorem noteMode_bok (m : BitVec 2) (s : State) : (noteMode m s).bok = s.bok := rfl
@[simp] theorem noteMode_aok (m : BitVec 2) (s : State) : (noteMode m s).aok = s.aok := rfl
@[simp] theorem noteMode_chkok (m : BitVec 2) (s : State) : (noteMode m s).chkok = s.chkok := rfl
@[simp] theorem noteMode_rate (m : BitVec 2) (s : State) : (noteMode m s).rate = s.rate := rfl
@[simp] theorem noteMode_mode (m : BitVec 2) (s : State) : (noteMode m s).mode = (if s.xok then m else s.mode) := rfl
@[simp] theorem noteMode_modev (m : BitVec 2) (s : State) : (noteMode m s).modev = (s.modev || s.xok) := rfl
@[simp] theorem noteMode_cs (m : BitVec 2) (s : State) : (noteMode m s).cs = s.cs := rfl
@[simp] theorem noteMode_conv (m : BitVec 2) (s : State) : (noteMode m s).conv = s.conv := rfl
@[simp] theorem noteMode_st (m : BitVec 2) (s : State) : (noteMode m s).st = s.st := rfl
@[simp] theorem noteMode_busy (m : BitVec 2) (s : State) : (noteMode m s).busy = s.busy := rfl
@[simp] theorem noteMode_op (m : BitVec 2) (s : State) : (noteMode m s).op = s.op := rfl
@[simp] theorem noteMode_ph (m : BitVec 2) (s : State) : (noteMode m s).ph = s.ph := rfl
@[simp] theorem noteMode_k (m : BitVec 2) (s : State) : (noteMode m s).k = s.k := rfl
@[simp] theorem noteMode_samples (m : BitVec 2) (s : State) : (noteMode m s).samples = s.samples := rfl
@[simp] theorem noteMode_p (m : BitVec 2) (s : State) : (noteMode m s).p = s.p := rfl
@[simp] theorem noteMode_seenhi (m : BitVec 2) (s : State) : (noteMode m s).seenhi = s.seenhi := rfl
@[simp] theorem noteMode_owner (m : BitVec 2) (s : State) : (noteMode m s).owner = s.owner := rfl
@[simp] theorem noteMode_port (m : BitVec 2) (s : State) : (noteMode m s).port = s.port := rfl
@[simp] theorem noteMode_xfer (m : BitVec 2) (s : State) : (noteMode m s).xfer = s.xfer := rfl
@[simp] theorem noteMode_env (m : BitVec 2) (s : State) : (noteMode m s).env = s.env := rfl
@[simp] theorem noteMode_trace (m : BitVec 2) (s : State) : (noteMode m s).trace = s.trace := rfl

/-! `setrateEffect`: SETRATE (`43_config_system.md` R205). -/

@[simp] theorem setrateEffect_rdata (r : BitVec 8) (s : State) : (setrateEffect r s).rdata = s.rdata := rfl
@[simp] theorem setrateEffect_v (r : BitVec 8) (s : State) : (setrateEffect r s).v = s.v := rfl
@[simp] theorem setrateEffect_vb (r : BitVec 8) (s : State) : (setrateEffect r s).vb = s.vb := rfl
@[simp] theorem setrateEffect_accs (r : BitVec 8) (s : State) : (setrateEffect r s).accs = s.accs := rfl
@[simp] theorem setrateEffect_acc (r : BitVec 8) (s : State) : (setrateEffect r s).acc = s.acc := rfl
@[simp] theorem setrateEffect_xok (r : BitVec 8) (s : State) : (setrateEffect r s).xok = s.xok := rfl
@[simp] theorem setrateEffect_vok (r : BitVec 8) (s : State) : (setrateEffect r s).vok = s.vok := rfl
@[simp] theorem setrateEffect_bok (r : BitVec 8) (s : State) : (setrateEffect r s).bok = s.bok := rfl
@[simp] theorem setrateEffect_aok (r : BitVec 8) (s : State) : (setrateEffect r s).aok = s.aok := rfl
@[simp] theorem setrateEffect_chkok (r : BitVec 8) (s : State) : (setrateEffect r s).chkok = s.chkok := rfl
@[simp] theorem setrateEffect_rate (r : BitVec 8) (s : State) : (setrateEffect r s).rate = rateCode r := rfl
@[simp] theorem setrateEffect_mode (r : BitVec 8) (s : State) : (setrateEffect r s).mode = s.mode := rfl
@[simp] theorem setrateEffect_modev (r : BitVec 8) (s : State) : (setrateEffect r s).modev = s.modev := rfl
@[simp] theorem setrateEffect_cs (r : BitVec 8) (s : State) : (setrateEffect r s).cs = s.cs := rfl
@[simp] theorem setrateEffect_conv (r : BitVec 8) (s : State) : (setrateEffect r s).conv = s.conv := rfl
@[simp] theorem setrateEffect_st (r : BitVec 8) (s : State) : (setrateEffect r s).st = Status.clear := rfl
@[simp] theorem setrateEffect_busy (r : BitVec 8) (s : State) : (setrateEffect r s).busy = s.busy := rfl
@[simp] theorem setrateEffect_op (r : BitVec 8) (s : State) : (setrateEffect r s).op = s.op := rfl
@[simp] theorem setrateEffect_ph (r : BitVec 8) (s : State) : (setrateEffect r s).ph = s.ph := rfl
@[simp] theorem setrateEffect_k (r : BitVec 8) (s : State) : (setrateEffect r s).k = s.k := rfl
@[simp] theorem setrateEffect_samples (r : BitVec 8) (s : State) : (setrateEffect r s).samples = s.samples := rfl
@[simp] theorem setrateEffect_p (r : BitVec 8) (s : State) : (setrateEffect r s).p = s.p := rfl
@[simp] theorem setrateEffect_seenhi (r : BitVec 8) (s : State) : (setrateEffect r s).seenhi = s.seenhi := rfl
@[simp] theorem setrateEffect_owner (r : BitVec 8) (s : State) : (setrateEffect r s).owner = s.owner := rfl
@[simp] theorem setrateEffect_port (r : BitVec 8) (s : State) : (setrateEffect r s).port = s.port := rfl
@[simp] theorem setrateEffect_xfer (r : BitVec 8) (s : State) : (setrateEffect r s).xfer = s.xfer := rfl
@[simp] theorem setrateEffect_env (r : BitVec 8) (s : State) : (setrateEffect r s).env = s.env := rfl
@[simp] theorem setrateEffect_trace (r : BitVec 8) (s : State) : (setrateEffect r s).trace = s.trace := rfl

/-! `noteIdentityCheck`: the identity check (`43_config_system.md` R209). -/

@[simp] theorem noteIdentityCheck_rdata (c : Cfg) (s : State) : (noteIdentityCheck c s).rdata = s.rdata := rfl
@[simp] theorem noteIdentityCheck_v (c : Cfg) (s : State) : (noteIdentityCheck c s).v = s.v := rfl
@[simp] theorem noteIdentityCheck_vb (c : Cfg) (s : State) : (noteIdentityCheck c s).vb = s.vb := rfl
@[simp] theorem noteIdentityCheck_accs (c : Cfg) (s : State) : (noteIdentityCheck c s).accs = s.accs := rfl
@[simp] theorem noteIdentityCheck_acc (c : Cfg) (s : State) : (noteIdentityCheck c s).acc = s.acc := rfl
@[simp] theorem noteIdentityCheck_xok (c : Cfg) (s : State) : (noteIdentityCheck c s).xok = s.xok := rfl
@[simp] theorem noteIdentityCheck_vok (c : Cfg) (s : State) : (noteIdentityCheck c s).vok = s.vok := rfl
@[simp] theorem noteIdentityCheck_bok (c : Cfg) (s : State) : (noteIdentityCheck c s).bok = s.bok := rfl
@[simp] theorem noteIdentityCheck_aok (c : Cfg) (s : State) : (noteIdentityCheck c s).aok = s.aok := rfl
@[simp] theorem noteIdentityCheck_chkok (c : Cfg) (s : State) : (noteIdentityCheck c s).chkok = (s.xok && identityMatches c s.rdata) := rfl
@[simp] theorem noteIdentityCheck_rate (c : Cfg) (s : State) : (noteIdentityCheck c s).rate = s.rate := rfl
@[simp] theorem noteIdentityCheck_mode (c : Cfg) (s : State) : (noteIdentityCheck c s).mode = s.mode := rfl
@[simp] theorem noteIdentityCheck_modev (c : Cfg) (s : State) : (noteIdentityCheck c s).modev = s.modev := rfl
@[simp] theorem noteIdentityCheck_cs (c : Cfg) (s : State) : (noteIdentityCheck c s).cs = s.cs := rfl
@[simp] theorem noteIdentityCheck_conv (c : Cfg) (s : State) : (noteIdentityCheck c s).conv = s.conv := rfl
@[simp] theorem noteIdentityCheck_st (c : Cfg) (s : State) : (noteIdentityCheck c s).st = s.st.noteIdentity (s.xok && !identityMatches c s.rdata) := rfl
@[simp] theorem noteIdentityCheck_busy (c : Cfg) (s : State) : (noteIdentityCheck c s).busy = s.busy := rfl
@[simp] theorem noteIdentityCheck_op (c : Cfg) (s : State) : (noteIdentityCheck c s).op = s.op := rfl
@[simp] theorem noteIdentityCheck_ph (c : Cfg) (s : State) : (noteIdentityCheck c s).ph = s.ph := rfl
@[simp] theorem noteIdentityCheck_k (c : Cfg) (s : State) : (noteIdentityCheck c s).k = s.k := rfl
@[simp] theorem noteIdentityCheck_samples (c : Cfg) (s : State) : (noteIdentityCheck c s).samples = s.samples := rfl
@[simp] theorem noteIdentityCheck_p (c : Cfg) (s : State) : (noteIdentityCheck c s).p = s.p := rfl
@[simp] theorem noteIdentityCheck_seenhi (c : Cfg) (s : State) : (noteIdentityCheck c s).seenhi = s.seenhi := rfl
@[simp] theorem noteIdentityCheck_owner (c : Cfg) (s : State) : (noteIdentityCheck c s).owner = s.owner := rfl
@[simp] theorem noteIdentityCheck_port (c : Cfg) (s : State) : (noteIdentityCheck c s).port = s.port := rfl
@[simp] theorem noteIdentityCheck_xfer (c : Cfg) (s : State) : (noteIdentityCheck c s).xfer = s.xfer := rfl
@[simp] theorem noteIdentityCheck_env (c : Cfg) (s : State) : (noteIdentityCheck c s).env = s.env := rfl
@[simp] theorem noteIdentityCheck_trace (c : Cfg) (s : State) : (noteIdentityCheck c s).trace = s.trace := rfl

/-! `resetEffect`: RESET (`43_config_system.md` R212). -/

@[simp] theorem resetEffect_rdata (s : State) : (resetEffect s).rdata = s.rdata := rfl
@[simp] theorem resetEffect_v (s : State) : (resetEffect s).v = s.v := rfl
@[simp] theorem resetEffect_vb (s : State) : (resetEffect s).vb = s.vb := rfl
@[simp] theorem resetEffect_accs (s : State) : (resetEffect s).accs = s.accs := rfl
@[simp] theorem resetEffect_acc (s : State) : (resetEffect s).acc = s.acc := rfl
@[simp] theorem resetEffect_xok (s : State) : (resetEffect s).xok = s.xok := rfl
@[simp] theorem resetEffect_vok (s : State) : (resetEffect s).vok = s.vok := rfl
@[simp] theorem resetEffect_bok (s : State) : (resetEffect s).bok = s.bok := rfl
@[simp] theorem resetEffect_aok (s : State) : (resetEffect s).aok = s.aok := rfl
@[simp] theorem resetEffect_chkok (s : State) : (resetEffect s).chkok = s.chkok := rfl
@[simp] theorem resetEffect_rate (s : State) : (resetEffect s).rate = s.rate := rfl
@[simp] theorem resetEffect_mode (s : State) : (resetEffect s).mode = s.mode := rfl
@[simp] theorem resetEffect_modev (s : State) : (resetEffect s).modev = s.modev := rfl
@[simp] theorem resetEffect_cs (s : State) : (resetEffect s).cs = s.cs := rfl
@[simp] theorem resetEffect_conv (s : State) : (resetEffect s).conv = s.conv := rfl
@[simp] theorem resetEffect_st (s : State) : (resetEffect s).st = Status.unsupportedOnly := rfl
@[simp] theorem resetEffect_busy (s : State) : (resetEffect s).busy = s.busy := rfl
@[simp] theorem resetEffect_op (s : State) : (resetEffect s).op = s.op := rfl
@[simp] theorem resetEffect_ph (s : State) : (resetEffect s).ph = s.ph := rfl
@[simp] theorem resetEffect_k (s : State) : (resetEffect s).k = s.k := rfl
@[simp] theorem resetEffect_samples (s : State) : (resetEffect s).samples = s.samples := rfl
@[simp] theorem resetEffect_p (s : State) : (resetEffect s).p = s.p := rfl
@[simp] theorem resetEffect_seenhi (s : State) : (resetEffect s).seenhi = s.seenhi := rfl
@[simp] theorem resetEffect_owner (s : State) : (resetEffect s).owner = s.owner := rfl
@[simp] theorem resetEffect_port (s : State) : (resetEffect s).port = s.port := rfl
@[simp] theorem resetEffect_xfer (s : State) : (resetEffect s).xfer = s.xfer := rfl
@[simp] theorem resetEffect_env (s : State) : (resetEffect s).env = s.env := rfl
@[simp] theorem resetEffect_trace (s : State) : (resetEffect s).trace = s.trace := rfl

/-! `setAccumulator`: `A <- x` (`42_acquisition.md` R191). -/

@[simp] theorem setAccumulator_rdata (q : Acq) (x : F32) (s : State) : (setAccumulator q x s).rdata = s.rdata := by unfold setAccumulator; split <;> rfl
@[simp] theorem setAccumulator_v (q : Acq) (x : F32) (s : State) : (setAccumulator q x s).v = s.v := by unfold setAccumulator; split <;> rfl
@[simp] theorem setAccumulator_vb (q : Acq) (x : F32) (s : State) : (setAccumulator q x s).vb = s.vb := by unfold setAccumulator; split <;> rfl
@[simp] theorem setAccumulator_accs (q : Acq) (x : F32) (s : State) : (setAccumulator q x s).accs = (if q.batch then s.accs else x) := by unfold setAccumulator; split <;> rfl
@[simp] theorem setAccumulator_acc (q : Acq) (x : F32) (s : State) : (setAccumulator q x s).acc = (if q.batch then s.acc.set s.k x else s.acc) := by unfold setAccumulator; split <;> rfl
@[simp] theorem setAccumulator_xok (q : Acq) (x : F32) (s : State) : (setAccumulator q x s).xok = s.xok := by unfold setAccumulator; split <;> rfl
@[simp] theorem setAccumulator_vok (q : Acq) (x : F32) (s : State) : (setAccumulator q x s).vok = s.vok := by unfold setAccumulator; split <;> rfl
@[simp] theorem setAccumulator_bok (q : Acq) (x : F32) (s : State) : (setAccumulator q x s).bok = s.bok := by unfold setAccumulator; split <;> rfl
@[simp] theorem setAccumulator_aok (q : Acq) (x : F32) (s : State) : (setAccumulator q x s).aok = s.aok := by unfold setAccumulator; split <;> rfl
@[simp] theorem setAccumulator_chkok (q : Acq) (x : F32) (s : State) : (setAccumulator q x s).chkok = s.chkok := by unfold setAccumulator; split <;> rfl
@[simp] theorem setAccumulator_rate (q : Acq) (x : F32) (s : State) : (setAccumulator q x s).rate = s.rate := by unfold setAccumulator; split <;> rfl
@[simp] theorem setAccumulator_mode (q : Acq) (x : F32) (s : State) : (setAccumulator q x s).mode = s.mode := by unfold setAccumulator; split <;> rfl
@[simp] theorem setAccumulator_modev (q : Acq) (x : F32) (s : State) : (setAccumulator q x s).modev = s.modev := by unfold setAccumulator; split <;> rfl
@[simp] theorem setAccumulator_cs (q : Acq) (x : F32) (s : State) : (setAccumulator q x s).cs = s.cs := by unfold setAccumulator; split <;> rfl
@[simp] theorem setAccumulator_conv (q : Acq) (x : F32) (s : State) : (setAccumulator q x s).conv = s.conv := by unfold setAccumulator; split <;> rfl
@[simp] theorem setAccumulator_st (q : Acq) (x : F32) (s : State) : (setAccumulator q x s).st = s.st := by unfold setAccumulator; split <;> rfl
@[simp] theorem setAccumulator_busy (q : Acq) (x : F32) (s : State) : (setAccumulator q x s).busy = s.busy := by unfold setAccumulator; split <;> rfl
@[simp] theorem setAccumulator_op (q : Acq) (x : F32) (s : State) : (setAccumulator q x s).op = s.op := by unfold setAccumulator; split <;> rfl
@[simp] theorem setAccumulator_ph (q : Acq) (x : F32) (s : State) : (setAccumulator q x s).ph = s.ph := by unfold setAccumulator; split <;> rfl
@[simp] theorem setAccumulator_k (q : Acq) (x : F32) (s : State) : (setAccumulator q x s).k = s.k := by unfold setAccumulator; split <;> rfl
@[simp] theorem setAccumulator_samples (q : Acq) (x : F32) (s : State) : (setAccumulator q x s).samples = s.samples := by unfold setAccumulator; split <;> rfl
@[simp] theorem setAccumulator_p (q : Acq) (x : F32) (s : State) : (setAccumulator q x s).p = s.p := by unfold setAccumulator; split <;> rfl
@[simp] theorem setAccumulator_seenhi (q : Acq) (x : F32) (s : State) : (setAccumulator q x s).seenhi = s.seenhi := by unfold setAccumulator; split <;> rfl
@[simp] theorem setAccumulator_owner (q : Acq) (x : F32) (s : State) : (setAccumulator q x s).owner = s.owner := by unfold setAccumulator; split <;> rfl
@[simp] theorem setAccumulator_port (q : Acq) (x : F32) (s : State) : (setAccumulator q x s).port = s.port := by unfold setAccumulator; split <;> rfl
@[simp] theorem setAccumulator_xfer (q : Acq) (x : F32) (s : State) : (setAccumulator q x s).xfer = s.xfer := by unfold setAccumulator; split <;> rfl
@[simp] theorem setAccumulator_env (q : Acq) (x : F32) (s : State) : (setAccumulator q x s).env = s.env := by unfold setAccumulator; split <;> rfl
@[simp] theorem setAccumulator_trace (q : Acq) (x : F32) (s : State) : (setAccumulator q x s).trace = s.trace := by unfold setAccumulator; split <;> rfl

/-! `accumulate`: a sample accumulated (`42_acquisition.md` R177). -/

@[simp] theorem accumulate_rdata (q : Acq) (s : State) : (accumulate q s).rdata = s.rdata := by unfold accumulate setAccumulator; split <;> rfl
@[simp] theorem accumulate_v (q : Acq) (s : State) : (accumulate q s).v = s.v := by unfold accumulate setAccumulator; split <;> rfl
@[simp] theorem accumulate_vb (q : Acq) (s : State) : (accumulate q s).vb = s.vb := by unfold accumulate setAccumulator; split <;> rfl
@[simp] theorem accumulate_accs (q : Acq) (s : State) : (accumulate q s).accs = (setAccumulator q (f32Add (accumulator q s) s.v) s).accs := by unfold accumulate setAccumulator; split <;> rfl
@[simp] theorem accumulate_acc (q : Acq) (s : State) : (accumulate q s).acc = (setAccumulator q (f32Add (accumulator q s) s.v) s).acc := by unfold accumulate setAccumulator; split <;> rfl
@[simp] theorem accumulate_xok (q : Acq) (s : State) : (accumulate q s).xok = s.xok := by unfold accumulate setAccumulator; split <;> rfl
@[simp] theorem accumulate_vok (q : Acq) (s : State) : (accumulate q s).vok = s.vok := by unfold accumulate setAccumulator; split <;> rfl
@[simp] theorem accumulate_bok (q : Acq) (s : State) : (accumulate q s).bok = s.bok := by unfold accumulate setAccumulator; split <;> rfl
@[simp] theorem accumulate_aok (q : Acq) (s : State) : (accumulate q s).aok = (s.aok && s.vok) := by unfold accumulate setAccumulator; split <;> rfl
@[simp] theorem accumulate_chkok (q : Acq) (s : State) : (accumulate q s).chkok = s.chkok := by unfold accumulate setAccumulator; split <;> rfl
@[simp] theorem accumulate_rate (q : Acq) (s : State) : (accumulate q s).rate = s.rate := by unfold accumulate setAccumulator; split <;> rfl
@[simp] theorem accumulate_mode (q : Acq) (s : State) : (accumulate q s).mode = s.mode := by unfold accumulate setAccumulator; split <;> rfl
@[simp] theorem accumulate_modev (q : Acq) (s : State) : (accumulate q s).modev = s.modev := by unfold accumulate setAccumulator; split <;> rfl
@[simp] theorem accumulate_cs (q : Acq) (s : State) : (accumulate q s).cs = s.cs := by unfold accumulate setAccumulator; split <;> rfl
@[simp] theorem accumulate_conv (q : Acq) (s : State) : (accumulate q s).conv = s.conv := by unfold accumulate setAccumulator; split <;> rfl
@[simp] theorem accumulate_st (q : Acq) (s : State) : (accumulate q s).st = s.st := by unfold accumulate setAccumulator; split <;> rfl
@[simp] theorem accumulate_busy (q : Acq) (s : State) : (accumulate q s).busy = s.busy := by unfold accumulate setAccumulator; split <;> rfl
@[simp] theorem accumulate_op (q : Acq) (s : State) : (accumulate q s).op = s.op := by unfold accumulate setAccumulator; split <;> rfl
@[simp] theorem accumulate_ph (q : Acq) (s : State) : (accumulate q s).ph = s.ph := by unfold accumulate setAccumulator; split <;> rfl
@[simp] theorem accumulate_k (q : Acq) (s : State) : (accumulate q s).k = s.k := by unfold accumulate setAccumulator; split <;> rfl
@[simp] theorem accumulate_samples (q : Acq) (s : State) : (accumulate q s).samples = s.samples + 1#16 := by unfold accumulate setAccumulator; split <;> rfl
@[simp] theorem accumulate_p (q : Acq) (s : State) : (accumulate q s).p = s.p := by unfold accumulate setAccumulator; split <;> rfl
@[simp] theorem accumulate_seenhi (q : Acq) (s : State) : (accumulate q s).seenhi = s.seenhi := by unfold accumulate setAccumulator; split <;> rfl
@[simp] theorem accumulate_owner (q : Acq) (s : State) : (accumulate q s).owner = s.owner := by unfold accumulate setAccumulator; split <;> rfl
@[simp] theorem accumulate_port (q : Acq) (s : State) : (accumulate q s).port = s.port := by unfold accumulate setAccumulator; split <;> rfl
@[simp] theorem accumulate_xfer (q : Acq) (s : State) : (accumulate q s).xfer = s.xfer := by unfold accumulate setAccumulator; split <;> rfl
@[simp] theorem accumulate_env (q : Acq) (s : State) : (accumulate q s).env = s.env := by unfold accumulate setAccumulator; split <;> rfl
@[simp] theorem accumulate_trace (q : Acq) (s : State) : (accumulate q s).trace = s.trace := by unfold accumulate setAccumulator; split <;> rfl

end Sys2Proof.Machine
end

