-- ==== Sys2Proof/Laws/Bits.lean ====
section
/-! SUPPORT. Reading one bit of a concatenation whose parts' widths are numerals: the rewriting steps for the words the model
builds by concatenation (`10_state.md` R46 to R48, `30_encoding.md` R97). -/

namespace Sys2Proof.Machine

/-- A bit below the low part's width is the low part's. -/
theorem getLsbD_append_low {n m : Nat} (x : BitVec n) (y : BitVec m) (i : Nat) (h : i < m) :
    (x ++ y).getLsbD i = y.getLsbD i := by
  simp [BitVec.getLsbD_append, h]

/-- A bit from the low part's width on is the high part's. -/
theorem getLsbD_append_high {n m : Nat} (x : BitVec n) (y : BitVec m) (i : Nat) (h : ¬ i < m) :
    (x ++ y).getLsbD i = x.getLsbD (i - m) := by
  simp [BitVec.getLsbD_append, h]

end Sys2Proof.Machine
end

