-- ==== Sys2Proof/Laws/Ops.lean ====
section
/-! SUPPORT. For each shared operation one lemma that says once everything it can do. -/

namespace Sys2Proof.Machine
open Sys2Proof Sys2Proof.Config

/-! ### Frames -/

/-- A read frame that transferred nothing. -/
theorem memRead_failed (c : Cfg) (a : RegAddr) (s : State) (h : s.env.nextRead = .none) :
    memRead c a s =
      { s with
        cs := false, rdata := failedReadData s.env.draws, xok := false, st := s.st.noteFrame false, env := s.env.afterRead
        trace := s.trace ++ [.csa, .csd] } := by
  simp [memRead, releaseCs, busRead, assertCs, h, containerOf, answered, readSlots]

/-- A read frame that answered four bytes. -/
theorem memRead_answered (c : Cfg) (a : RegAddr) (s : State) (r0 r1 r2 r3 : Byte)
    (h : s.env.nextRead = .bytes r0 r1 r2 r3) :
    memRead c a s =
      { s with
        cs := false, rdata := r0 ++ r1 ++ r2 ++ r3, xok := true, st := s.st.noteFrame true, env := s.env.afterRead
        trace := s.trace ++ ([.csa] ++ readSlots c a (.bytes r0 r1 r2 r3) ++ [.csd]) } := by
  simp [memRead, releaseCs, busRead, assertCs, h, containerOf, answered]

/-- A write frame, whatever the answer. -/
theorem memWrite_eq (c : Cfg) (a : RegAddr) (w : Payload) (s : State) :
    memWrite c a w s =
      { s with
        cs := false, xok := s.env.nextWrite, st := s.st.noteFrame s.env.nextWrite, env := s.env.afterWrite
        trace := s.trace ++ ([.csa] ++ writeSlots c a w s.env.nextWrite ++ [.csd]) } := by
  simp [memWrite, releaseCs, busWrite, assertCs]

/-- The response of a completion is not changed by the return to idle. -/
@[simp] theorem resp_toIdle (s : State) : (toIdle s).resp = s.resp := rfl

@[simp] theorem resp_complete (s : State) : (complete s).resp = s.resp := rfl

/-! ### Status bits -/

@[simp] theorem noteFrame_true (st : Status) : st.noteFrame true = st := by
  cases st; simp [Status.noteFrame]

@[simp] theorem noteFrame_false (st : Status) : st.noteFrame false = { st with xfail := true } := by
  cases st; simp [Status.noteFrame]

/-- What a frame can do to `ST`: nothing, or set `XFAIL` (`60_exceptions.md` R222). -/
theorem noteFrame_cases (st : Status) (ok : Bool) :
    st.noteFrame ok = st ∨ st.noteFrame ok = { st with xfail := true } := by
  cases ok <;> simp

/-! ### Ready polling -/

/-- How a sample leaves the wait (`41_channel_primitives.md` R150). -/
theorem pollResult_cases (c : Cfg) (s : State) :
    (pollResult c s = .ready ∧ s.env.nextLevel = .low ∧ (c.readySense = .level ∨ s.seenhi = true)) ∨
    (pollResult c s = .timeout ∧ tReady c = some (s.p + 1)) ∨
    (pollResult c s = .stay ∧ tReady c ≠ some (s.p + 1)) := by
  unfold pollResult waitResult
  by_cases h : s.env.nextLevel = .low ∧ (c.readySense = .level ∨ (pollSample s).seenhi = true)
  · refine .inl ⟨if_pos h, h.1, ?_⟩
    have h2 := h.2
    rw [pollSample_seenhi, h.1] at h2
    simpa using h2
  · rw [if_neg h]
    by_cases ht : tReady c = some (pollSample s).p
    · exact .inr (.inl ⟨if_pos ht, ht⟩)
    · exact .inr (.inr ⟨if_neg ht, ht⟩)

/-- What a poll step can do (R150, R152). -/
theorem pollStep_cases (c : Cfg) (ready timeout : State → State) (s : State) :
    (pollResult c s = .stay ∧ pollStep c ready timeout s = pollSample s) ∨
    (pollResult c s = .ready ∧ pollStep c ready timeout s = ready (pollSample s)) ∨
    (pollResult c s = .timeout ∧ pollStep c ready timeout s = timeout (flagTimeout (pollSample s))) := by
  unfold pollStep
  cases h : pollResult c s <;> simp

/-! ### Acceptance -/

/-- What a micro-step toward a latched operation can do (`10_state.md` R43, R44). -/
theorem runOperation_cases (i : Instr) (accepted : State → State) (phase : State → StepOutcome) (s : State) :
    (s.busy = true ∧ i.wellFormed = true ∧ s.op = latchedOp i ∧ runOperation i accepted phase s = phase s) ∨
    (s.busy = true ∧ (i.wellFormed = false ∨ s.op ≠ latchedOp i) ∧ runOperation i accepted phase s = .next s) ∨
    (s.busy = false ∧ i.wellFormed = true ∧ runOperation i accepted phase s = .next (accepted (latchCommand i s))) ∨
    (s.busy = false ∧ i.wellFormed = false ∧ runOperation i accepted phase s = .next (refuseCommand s)) := by
  unfold runOperation
  cases s.busy <;> cases i.wellFormed <;> by_cases h : s.op = latchedOp i <;> simp [h]

/-- What a micro-step toward SETRATE or RESET can do (`10_state.md` R43). -/
theorem runImmediate_cases (i : Instr) (effect : State → State) (s : State) :
    (s.busy = true ∧ runImmediate i effect s = .next s) ∨
    (s.busy = false ∧ i.wellFormed = true ∧ runImmediate i effect s = .next (emitDone (effect s))) ∨
    (s.busy = false ∧ i.wellFormed = false ∧ runImmediate i effect s = .next (refuseCommand s)) := by
  unfold runImmediate
  cases s.busy <;> cases i.wellFormed <;> simp

/-- What the single phase of a primitive operation can do. -/
theorem onePhase_cases (act : State → State) (s : State) :
    (s.ph = 0 ∧ onePhase act s = .next (complete (act s))) ∨ (s.ph ≠ 0 ∧ onePhase act s = .fault .noSuchPhase) := by
  unfold onePhase
  by_cases h : s.ph = 0 <;> simp [h]

/-- What can stand at the command port (`20_memory.md` R77). -/
theorem takeCommand_cases (s : State) :
    (s.port.main = [] ∧ s.port.timer = [] ∧ takeCommand s = none) ∨
    (∃ w ws, s.port.main = w :: ws ∧ s.port.timer = [] ∧ takeCommand s = some (w, takeMain s)) ∨
    (∃ w ws, s.port.main = [] ∧ s.port.timer = w :: ws ∧ takeCommand s = some (w, takeTimer s)) ∨
    (∃ w ws w' ws', s.port.main = w :: ws ∧ s.port.timer = w' :: ws' ∧
      ((s.env.nextPick = .main ∧ takeCommand s = some (w, takeMain { s with env := s.env.afterPick })) ∨
       (s.env.nextPick = .timer ∧ takeCommand s = some (w', takeTimer { s with env := s.env.afterPick })))) := by
  unfold takeCommand
  rcases hm : s.port.main with _ | ⟨w, ws⟩ <;> rcases ht : s.port.timer with _ | ⟨w', ws'⟩
  · simp
  · simp
  · simp
  · cases hp : s.env.nextPick <;> simp

/-! ### The phase table -/

/-- What the end of a channel can do (`42_acquisition.md` R191). -/
theorem endOfChannel_cases (q : Acq) (s : State) :
    (q.batch = false ∧ endOfChannel q s = complete s) ∨
    (q.batch = true ∧ s.k.val < 5 ∧ endOfChannel q s = nextChannel (storeChannel s)) ∨
    (q.batch = true ∧ ¬ s.k.val < 5 ∧ endOfChannel q s = complete (storeChannel s)) := by
  unfold endOfChannel
  cases q.batch <;> by_cases h : s.k.val < 5 <;> simp [h]

/-- What the end of a sample can do (`42_acquisition.md` R191). -/
theorem endOfSample_cases (q : Acq) (s : State) :
    (q.averaged = true ∧ endOfSample q s = nextSample q (accumulate q s)) ∨
    (q.averaged = false ∧ endOfSample q s = endOfChannel q s) := by
  unfold endOfSample
  cases q.averaged <;> simp

/-- Each phase of a composite operation (`42_acquisition.md` R191). -/
theorem acqPhase_cases (c : Cfg) (q : Acq) (s : State) :
    (s.ph = 0 ∧ acqPhase c q s = .next (goto 1 (clearAverage q (selectPhase c (acqSelector q s) s)))) ∨
    (s.ph = 1 ∧ acqPhase c q s = .next (goto 2 (enterWait (startPhase c s.rate s)))) ∨
    (s.ph = 2 ∧ acqPhase c q s = .next (pollStep c (goto 3) (goto 5) s)) ∨
    (s.ph = 3 ∧ acqPhase c q s = .next (goto 4 (stopPhase c s))) ∨
    (s.ph = 4 ∧ acqPhase c q s = .next (endOfSample q (readVoltPhase c s))) ∨
    (s.ph = 5 ∧ acqPhase c q s = .next (endOfSample q (takeSentinel (stopPhase c s)))) ∨
    (s.ph = 6 ∧ q.averaged = true ∧ acqPhase c q s = .next (endOfChannel q (takeAverage q s))) ∨
    (s.ph = 6 ∧ q.averaged = false ∧ acqPhase c q s = .fault .noSuchPhase) := by
  unfold acqPhase
  match h : s.ph with
  | 0 => simp
  | 1 => simp
  | 2 => simp
  | 3 => simp
  | 4 => simp
  | 5 => simp
  | 6 => cases q.averaged <;> simp

/-! ### The sequencer -/

/-- The operation in progress is well formed and `OP` is what its acceptance latched. -/
theorem latchedInstr_spec (o : Op) (i : Instr) (h : latchedInstr o = some i) :
    i.wellFormed = true ∧ latchedOp i = o := by
  unfold latchedInstr at h
  cases ho : operationOfOp o with
  | none => simp [ho] at h
  | some j =>
    simp only [ho] at h
    split at h
    · rename_i hj
      cases h
      simpa using hj
    · cases h

/-- A busy step runs the operation in progress, or stops where no acceptance can have left `OP`. -/
theorem step_busy (s : State) (h : s.busy = true) :
    (∃ i, latchedInstr s.op = some i ∧ step s = exec i s) ∨
    (latchedInstr s.op = none ∧ step s = .fault .badSequencer) := by
  unfold step
  cases ho : latchedInstr s.op <;> simp [h]

/-- An idle step performs the frame asked of the transport, accepts the next command, refuses it, or waits. -/
theorem step_idle (s : State) (h : s.busy = false) :
    (∃ bytes i, s.xfer = some bytes ∧ decodeFrame bytes = .ok i ∧ step s = exec i (takeFrame s)) ∨
    (∃ bytes e, s.xfer = some bytes ∧ decodeFrame bytes = .error e ∧ step s = .refused .notAFrame) ∨
    (s.xfer = none ∧ takeCommand s = none ∧ step s = .next s) ∨
    (∃ w t i, s.xfer = none ∧ takeCommand s = some (w, t) ∧ decode w = .ok i ∧ step s = exec i t) ∨
    (∃ w t e, s.xfer = none ∧ takeCommand s = some (w, t) ∧ decode w = .error e ∧ step s = .next (refuseCommand t)) := by
  unfold step
  simp only [h, Bool.false_eq_true, if_false]
  cases hx : s.xfer with
  | some bytes => cases hd : decodeFrame bytes <;> simp [hd]
  | none =>
    cases ht : takeCommand s with
    | none => simp
    | some wt =>
      obtain ⟨w, t⟩ := wt
      cases hd : decode w <;> simp [hd]

end Sys2Proof.Machine
end

