-- ==== Sys2Proof/Laws/PerInstr.lean ====
section
/-! SUPPORT. One lemma per instruction: the operation that acceptance latches is the one the sequencer reads back from `OP`
(`10_state.md` R37). -/

namespace Sys2Proof.Laws
open Sys2Proof Sys2Proof.Machine

/-- A well-formed operation that acceptance latches is read back from `OP` unchanged. -/
def Latch.Statement (i : Instr) : Prop :=
  isLatched i = true → i.wellFormed = true → latchedInstr (latchedOp i) = some i

/-- Reading `OP` back gives the operation where the opcode table of `operationOfOp` names it. -/
theorem latch_of_operation (i : Instr) (h : operationOfOp (latchedOp i) = some i) : Latch.Statement i := by
  intro _ hw
  simp [latchedInstr, h, hw]

theorem Latch.rdreg (a : RegAddr) : Latch.Statement (.rdreg a) := latch_of_operation _ rfl

theorem Latch.wrreg (a : RegAddr) (v : Payload) : Latch.Statement (.wrreg a v) := latch_of_operation _ rfl

theorem Latch.selch (sel : BitVec 5) : Latch.Statement (.selch sel) := latch_of_operation _ rfl

theorem Latch.start (r : BitVec 8) : Latch.Statement (.start r) := latch_of_operation _ rfl

theorem Latch.stop : Latch.Statement .stop := latch_of_operation _ rfl

theorem Latch.waitrdy : Latch.Statement .waitrdy := latch_of_operation _ rfl

theorem Latch.rdvolt : Latch.Statement .rdvolt := latch_of_operation _ rfl

theorem Latch.acq1 (sel : BitVec 5) : Latch.Statement (.acq1 sel) := latch_of_operation _ rfl

theorem Latch.acqavg (sel : BitVec 5) (n : BitVec 16) : Latch.Statement (.acqavg sel n) := latch_of_operation _ rfl

theorem Latch.rdall : Latch.Statement .rdall := latch_of_operation _ rfl

theorem Latch.rdallavg (n : BitVec 16) : Latch.Statement (.rdallavg n) := latch_of_operation _ rfl

theorem Latch.setmode (m : BitVec 8) : Latch.Statement (.setmode m) := latch_of_operation _ rfl

theorem Latch.setrate (r : BitVec 8) : Latch.Statement (.setrate r) := fun h => nomatch h

theorem Latch.chkcom : Latch.Statement .chkcom := latch_of_operation _ rfl

theorem Latch.reset : Latch.Statement .reset := fun h => nomatch h

theorem Latch.frameRd (a : RegAddr) : Latch.Statement (.frameRd a) := fun h => nomatch h

theorem Latch.frameWr (a : RegAddr) (v : Payload) : Latch.Statement (.frameWr a v) := fun h => nomatch h

end Sys2Proof.Laws
end

