-- ==== Sys2Proof/Machine/Text.lean ====
section
/-! DEFINITION. The textual form of an operation (`30_encoding.md` R106) and the source's procedure names (R96). There is no
toolchain; a device register address is written as a number. -/

namespace Sys2Proof.Machine
open Sys2Proof

/-- The mnemonic, as the opcode table spells it. -/
def mnemonicOf : Instr → String
  | .rdreg _ => "RDREG"
  | .wrreg _ _ => "WRREG"
  | .selch _ => "SELCH"
  | .start _ => "START"
  | .stop => "STOP"
  | .waitrdy => "WAITRDY"
  | .rdvolt => "RDVOLT"
  | .acq1 _ => "ACQ1"
  | .acqavg _ _ => "ACQAVG"
  | .rdall => "RDALL"
  | .rdallavg _ => "RDALLAVG"
  | .setmode _ => "SETMODE"
  | .setrate _ => "SETRATE"
  | .chkcom => "CHKCOM"
  | .reset => "RESET"
  | .frameRd _ => "FRAME.RD"
  | .frameWr _ _ => "FRAME.WR"

/-- The source's procedure, an accepted synonym of the mnemonic (R96, R106); the frames are the primitives of `00_scope.md`
R12. -/
def procedureOf : Instr → String
  | .rdreg _ => "readRegister"
  | .wrreg _ _ => "writeRegister"
  | .selch _ => "selectChannel"
  | .start _ => "startConversion"
  | .stop => "stopConversion"
  | .waitrdy => "waitReady"
  | .rdvolt => "readVoltage"
  | .acq1 _ => "acquireSingle"
  | .acqavg _ _ => "acquireAveraged"
  | .rdall => "readAllChannels"
  | .rdallavg _ => "readAllChannelsAveraged"
  | .setmode _ => "setConversionMode"
  | .setrate _ => "setDataRate"
  | .chkcom => "checkCommunication"
  | .reset => "resetDevice"
  | .frameRd _ => "MemRead"
  | .frameWr _ _ => "MemWrite"

/-- The name of a selector index: SE0 to SE11, then DIFF0 to DIFF5 (R101); an index without a name is written as a number. -/
def selectorName (sel : BitVec 5) : String :=
  if sel.toNat < 12 then "SE" ++ toString sel.toNat
  else if sel.toNat < 18 then "DIFF" ++ toString (sel.toNat - 12)
  else toString sel.toNat

/-- The name of a mode byte (R102); a byte without a name is written as a number. -/
def modeName (m : BitVec 8) : String :=
  match m.toNat with
  | 0 => "CONT"
  | 1 => "SINGLE"
  | 2 => "CONTSINGLE"
  | k => toString k

/-- The operands in R106's order. -/
def operandTexts : Instr → List String
  | .rdreg a => [toString a.toNat]
  | .wrreg a v => [toString a.toNat, toString v.toNat]
  | .selch sel => [selectorName sel]
  | .start r => [toString r.toNat]
  | .stop => []
  | .waitrdy => []
  | .rdvolt => []
  | .acq1 sel => [selectorName sel]
  | .acqavg sel n => [selectorName sel, toString n.toNat]
  | .rdall => []
  | .rdallavg n => [toString n.toNat]
  | .setmode m => [modeName m]
  | .setrate r => [toString r.toNat]
  | .chkcom => []
  | .reset => []
  | .frameRd a => [toString a.toNat]
  | .frameWr a v => [toString a.toNat, toString v.toNat]

/-- A mnemonic, then its operands separated by commas (R106). -/
def textOf (i : Instr) : String :=
  match operandTexts i with
  | [] => mnemonicOf i
  | x :: xs => mnemonicOf i ++ " " ++ String.intercalate ", " (x :: xs)

end Sys2Proof.Machine
end

