-- ==== Sys2Proof/Tests/Slice0.lean ====
section
/-! SUPPORT. Tests with the values of `95_test_vectors.md` at the example configuration, and for every statement with
hypotheses a state and operands that meet them together. -/

namespace Sys2Proof.Tests
open Sys2Proof Sys2Proof.Machine Sys2Proof.Config Sys2Proof.Safety Sys2Proof.Statements

/-! ### Small states -/

/-- An idle block: the values `95_test_vectors.md` starts from, over the scripted environment. -/
def idle : State :=
  { State.reset with
    rate := 7#4
    env := { reads := [.bytes 0x00#8 0x12#8 0x34#8 0x56#8], writes := [true], ready := [.low], draws := 0, arb := [], picks := 0 } }

/-- The block executing `i` at phase `n`. -/
def at_ (i : Instr) (n : Fin 7) : State := { idle with busy := true, op := latchedOp i, ph := n }

/-- The same with another environment. -/
def at_with (i : Instr) (n : Fin 7) (reads : List ReadAnswer) (writes : List Bool) (ready : List Level) : State :=
  { at_ i n with env := { idle.env with reads := reads, writes := writes, ready := ready } }

/-- An idle block whose two contexts present these words. -/
def presented (main timer : List CommandWord) : State := { idle with port := { main := main, timer := timer } }

/-- What a step answers, if it answers a next state. -/
def nextOf (o : StepOutcome) : Option State :=
  match o with
  | .next t => some t
  | .fault _ => none
  | .refused _ => none

/-- A look at the state a step answers. -/
def seen {α : Type} (f : State → α) (o : StepOutcome) : Option α := (nextOf o).map f

/-- The bytes transmitted so far. -/
def sent (s : State) : List Byte :=
  s.trace.filterMap fun e =>
    match e with
    | .slot tx _ => some tx
    | .csa => none
    | .csd => none
    | .poll _ => none
    | .done _ _ => none

/-! ### WellFormed: one ill-formed term for each check (`30_encoding.md` R99 b to e) -/

theorem test_selch_18_ill_formed : (Instr.selch 18#5).wellFormed = false := by decide
theorem test_acq1_31_ill_formed : (Instr.acq1 31#5).wellFormed = false := by decide
theorem test_acqavg_18_ill_formed : (Instr.acqavg 18#5 1#16).wellFormed = false := by decide
theorem test_acqavg_zero_ill_formed : (Instr.acqavg 17#5 0#16).wellFormed = false := by decide
theorem test_rdallavg_zero_ill_formed : (Instr.rdallavg 0#16).wellFormed = false := by decide
theorem test_start_16_ill_formed : (Instr.start 16#8).wellFormed = false := by decide
theorem test_setrate_16_ill_formed : (Instr.setrate 16#8).wellFormed = false := by decide
theorem test_setmode_3_ill_formed : (Instr.setmode 3#8).wellFormed = false := by decide

/-! ### Decoding, each word written out from the encoding (V-DEC-1, V-DEC-2) -/

theorem test_decode_rdreg : decode 0x017F000000#40 = .ok (.rdreg 0x7F#7) := by decide
theorem test_decode_wrreg : decode 0x027FFFFFFF#40 = .ok (.wrreg 0x7F#7 0xFFFFFF#24) := by decide
theorem test_decode_selch : decode 0x1000000011#40 = .ok (.selch 17#5) := by decide
theorem test_decode_start : decode 0x110000000F#40 = .ok (.start 15#8) := by decide
theorem test_decode_stop : decode 0x1200000000#40 = .ok .stop := by decide
theorem test_decode_waitrdy : decode 0x1300000000#40 = .ok .waitrdy := by decide
theorem test_decode_rdvolt : decode 0x1400000000#40 = .ok .rdvolt := by decide
theorem test_decode_acq1 : decode 0x200000000E#40 = .ok (.acq1 14#5) := by decide
theorem test_decode_acqavg : decode 0x210011FFFF#40 = .ok (.acqavg 17#5 65535#16) := by decide
theorem test_decode_rdall : decode 0x2200000000#40 = .ok .rdall := by decide
theorem test_decode_rdallavg : decode 0x230000FFFF#40 = .ok (.rdallavg 65535#16) := by decide
theorem test_decode_setmode : decode 0x3000000002#40 = .ok (.setmode 2#8) := by decide
theorem test_decode_setrate : decode 0x3100000007#40 = .ok (.setrate 7#8) := by decide
theorem test_decode_chkcom : decode 0x3200000000#40 = .ok .chkcom := by decide
theorem test_decode_reset : decode 0x3300000000#40 = .ok .reset := by decide

/-- `aaaaaaa1`, four fill bytes, for a = 0x12 (V-FRM-1). -/
theorem test_decode_frame_rd : decodeFrame [0x25#8, 0#8, 0#8, 0#8, 0#8] = .ok (.frameRd 0x12#7) := by decide

/-- `aaaaaaa0`, three payload bytes, for a = 0x02 (V-FRM-5). -/
theorem test_decode_frame_wr : decodeFrame [0x04#8, 0x7F#8, 0xFF#8, 0xFF#8] = .ok (.frameWr 0x02#7 0x7FFFFF#24) := by decide

theorem test_frame_of_wrong_length : decodeFrame [0x04#8, 0x7F#8] = .error .notAFrame := by decide
theorem test_read_frame_without_read_bit : decodeFrame [0x24#8, 0#8, 0#8, 0#8, 0#8] = .error .notAFrame := by decide

theorem test_refused_words :
    ([0x0000000000#40, 0xFFFFFFFFFF#40, 0x0300000000#40, 0x1500000000#40, 0x2400000000#40, 0x3400000000#40].map decode
      = List.replicate 6 (.error .unknownOpcode)) ∧
    ([0x0184000000#40, 0x0104000001#40, 0x0282000037#40, 0x1000000020#40, 0x1200000001#40, 0x2100200001#40, 0x2300010000#40,
      0x3100000100#40].map decode = List.replicate 8 (.error .reservedBits)) ∧
    decode 0x1000000012#40 = .error .selectorRange ∧ decode 0x2100120001#40 = .error .selectorRange ∧
    decode 0x21000C0000#40 = .error .zeroCount ∧ decode 0x2300000000#40 = .error .zeroCount ∧
    decode 0x1100000010#40 = .error .rateRange ∧ decode 0x3100000010#40 = .error .rateRange ∧
    decode 0x3000000003#40 = .error .modeRange := by decide

theorem test_table_word_command : decodeTableWord 40 0x21000C0003 = some (.acqavg 12#5 3#16) := by decide
theorem test_table_word_frame_rd : decodeTableWord 40 0x2500000000 = some (.frameRd 0x12#7) := by decide
theorem test_table_word_frame_wr : decodeTableWord 32 0x0A000001 = some (.frameWr 0x05#7 0x000001#24) := by decide

/-- `TableWordsDecode`, read frames: numbers no command has, one of them (0x21, ACQAVG) with an opcode of the table. -/
theorem witness_read_frame_words :
    decode ((0x7F#7 ++ 1#1) ++ 0#32) = .error .unknownOpcode ∧ decode ((0x10#7 ++ 1#1) ++ 0#32) = .error .zeroCount := by decide

/-- The number the two rows share is the command's (log 9). -/
theorem test_table_word_shared : decodeTableWord 40 0x0100000000 = some (.rdreg 0#7) := by decide

/-- V-FRM-1: the control bytes of 0x40 under both read bits. -/
theorem test_control_bytes :
    ctlR cfgEx 0x40#7 = 0x81#8 ∧ ctlW cfgEx 0x40#7 = 0x80#8 ∧
    ctlR { cfgEx with readBitPos := 7 } 0x40#7 = 0x80#8 ∧ ctlW { cfgEx with readBitPos := 7 } 0x40#7 = 0x00#8 := by decide

/-- R106's examples of the textual form. -/
theorem test_text : textOf (.acqavg 12#5 3#16) = "ACQAVG DIFF0, 3" ∧ textOf (.setmode 1#8) = "SETMODE SINGLE" := by decide

/-! ### One step of each instruction at `CFG_EX`, on a block that executes it -/

/-- V-FRM-2. -/
theorem test_rdreg :
    seen (fun t => (t.rdata, t.xok, t.busy, sent t)) (rdregWith cfgEx 0x04#7 (at_ (.rdreg 0x04#7) 0)) =
      some (0x00123456#32, true, false, [0x09#8, 0#8, 0#8, 0#8, 0#8]) := by decide

/-- V-FRM-3: the events are `CSA, CSD` alone. -/
theorem test_rdreg_failed :
    seen (fun t => (t.xok, t.st.xfail, t.trace.take 2, statusWord t))
      (rdregWith cfgEx 0x04#7 (at_with (.rdreg 0x04#7) 0 [.none] [] [])) =
      some (false, true, [.csa, .csd], 0x00010000#32) := by decide

/-- V-FRM-5. -/
theorem test_wrreg :
    seen (fun t => (sent t, t.conv, t.xok)) (wrregWith cfgEx 0x02#7 0x7FFFFF#24 (at_ (.wrreg 0x02#7 0x7FFFFF#24) 0)) =
      some ([0x04#8, 0x7F#8, 0xFF#8, 0xFF#8], false, true) := by decide

/-- V-PRM-1. -/
theorem test_selch :
    seen sent (selchWith cfgEx 14#5 (at_ (.selch 14#5) 0)) = some [0x02#8, 0x00#8, 0x0F#8, 0x11#8] := by decide

/-- V-PRM-2, with the failed write: `CONV` is set all the same. -/
theorem test_start :
    seen (fun t => (sent t, t.conv)) (startWith cfgEx 7#8 (at_ (.start 7#8) 0)) =
      some ([0x04#8, 0x00#8, 0x00#8, 0x37#8], true) ∧
    seen (fun t => (t.conv, t.xok, t.st.xfail)) (startWith cfgEx 7#8 (at_with (.start 7#8) 0 [] [false] [])) =
      some (true, false, true) := by decide

/-- V-PRM-2. -/
theorem test_stop :
    seen (fun t => (sent t, t.conv)) (stopWith cfgEx (at_ .stop 0)) =
      some ([0x04#8, 0x00#8, 0x00#8, 0x10#8], false) := by decide

/-- V-WAIT-6: a bound of one sample, and the sample is high. -/
theorem test_waitrdy_timeout :
    seen (fun t => (t.busy, statusWord t)) (waitrdyWith { cfgEx with tReadyLess1 := some 0 } (at_with .waitrdy 0 [] [] [.high])) =
      some (false, 0x00020000#32) := by decide

/-- V-WAIT-3: under `edge` a first low sample does not count. -/
theorem test_waitrdy_edge :
    seen (fun t => (t.busy, t.p)) (waitrdyWith { cfgEx with readySense := .edge } (at_ .waitrdy 0)) = some (true, 1) := by decide

/-- V-VOLT, code 0x123456. -/
theorem test_rdvolt :
    seen (fun t => (t.v, t.vok)) (rdvoltWith cfgEx (at_ .rdvolt 0)) = some (0x40638E35#32, true) := by decide

/-- V-VOLT, the failed data read. -/
theorem test_rdvolt_failed :
    seen (fun t => (t.v, t.vok, t.xok, t.st.xfail)) (rdvoltWith cfgEx (at_with .rdvolt 0 [.none] [] [])) =
      some (0xBF800000#32, false, false, true) := by decide

/-- V-VOLT. -/
theorem test_volts :
    [1, 335544, 3355443, 8388606, -5517841, -335545].map voltOfRawDefault =
      [0x36480002#32, 0x3F7FFFF2#32, 0x41200001#32, 0x41C7FFFE#32, 0xC1838E3B#32, 0xBF800012#32] := by decide

/-- P2, the last step. -/
theorem test_acq1 :
    seen (fun t => (t.v, t.vok, t.busy)) (acq1With cfgEx 14#5 (at_ (.acq1 14#5) 4)) =
      some (0x40638E35#32, true, false) := by decide

/-- P3, the finish step. -/
theorem test_acqavg :
    seen (fun t => (t.v, t.vok, t.busy))
      (acqavgWith cfgEx 12#5 3#16 { at_ (.acqavg 12#5 3#16) 6 with accs := 0x40E38E3C#32, aok := true, samples := 3#16 }) =
      some (0x4017B428#32, true, false) := by decide

/-- P3b, the second sample: the sentinel is accumulated. -/
theorem test_acqavg_sentinel :
    seen (fun t => (t.accs, t.aok, t.ph))
      (acqavgWith cfgEx 12#5 2#16
        { at_with (.acqavg 12#5 2#16) 4 [.none] [] [] with accs := 0x41480002#32, aok := true, samples := 1#16 }) =
      some (0x41380002#32, false, 6) := by decide

/-- P4, channel 3: the sentinel is stored and the batch goes on. -/
theorem test_rdall :
    seen (fun t => (t.vb[(3 : Fin 6)], t.bok[(3 : Fin 6)], t.k, t.ph, t.busy))
      (rdallWith cfgEx { at_with .rdall 4 [.none] [] [] with k := 3 }) =
      some (0xBF800000#32, false, 4, 0, true) := by decide

/-- P5, channel 0: the accumulator after the second sample. -/
theorem test_rdallavg :
    seen (fun t => (t.acc[(0 : Fin 6)], t.samples, t.ph))
      (rdallavgWith cfgEx 2#16
        { at_with (.rdallavg 2#16) 4 [.bytes 0x00#8 0x10#8 0x00#8 0x02#8] [] [] with
          acc := Vector.replicate 6 0x40480002#32, aok := true, samples := 1#16 }) =
      some (0x40C8000E#32, 2#16, 6) := by decide

/-- V-CFG-1. -/
theorem test_setmode :
    seen (fun t => (sent t, configWord t)) (setmodeWith cfgEx 1#8 (at_ (.setmode 1#8) 0)) =
      some ([0x0A#8, 0x00#8, 0x00#8, 0x01#8], 0x00000057#32) := by decide

/-- V-CFG-2. -/
theorem test_setmode_failed :
    seen (fun t => (t.mode, t.modev, t.st.xfail))
      (setmodeWith cfgEx 2#8 { at_with (.setmode 2#8) 0 [] [false] [] with mode := 1#2, modev := true }) =
      some (1#2, true, true) := by decide

/-- V-CFG-3. -/
theorem test_setrate : seen (fun t => (t.rate, t.busy, sent t)) (execSetrate 15#8 idle) = some (15#4, false, []) := by decide

/-- V-CFG-4. -/
theorem test_chkcom :
    seen (fun t => (statusWord t, sent t)) (chkcomWith cfgEx (at_with .chkcom 0 [.bytes 0x00#8 0x12#8 0x34#8 0x5A#8] [] [])) =
      some (0x00000028#32, [0x01#8, 0#8, 0#8, 0#8, 0#8]) := by decide

/-- V-CFG-5. -/
theorem test_chkcom_mismatch :
    seen statusWord (chkcomWith cfgEx (at_with .chkcom 0 [.bytes 0xFF#8 0xFF#8 0xFF#8 0x00#8] [] [])) =
      some 0x00100008#32 := by decide

/-- V-CFG-7. -/
theorem test_reset : seen (fun t => (statusWord t, sent t)) (execReset idle) = some (0x00080000#32, []) := by decide

/-- The two frames alone, at the example configuration (V-FRM-4, V-FRM-7). -/
theorem test_frames :
    (memRead cfgEx 0x7F#7 { idle with env := { idle.env with reads := [.bytes 0xDE#8 0xAD#8 0xBE#8 0xEF#8] } }).rdata =
      0xDEADBEEF#32 ∧
    sent (memWrite cfgEx 0x05#7 0x010203#24 idle) = [0x0A#8, 0x01#8, 0x02#8, 0x03#8] := by decide

/-- V-AVG-1: an average of one sample. -/
theorem test_average_of_one : f32Div (f32Add zeroVolt 0x40638E35#32) (f32OfInt 1) = 0x40638E35#32 := by decide

/-! ### Binary32 at its edges: hand calculation from `00_scope.md` R14 -/

/-- Ties go to the even neighbour: 2^24 + 1 and 2^24 + 3 as binary32. -/
theorem test_ties_to_even : f32OfInt 16777217 = 0x4B800000#32 ∧ f32OfInt 16777219 = 0x4B800002#32 := by decide

/-- An exact cancellation is `+0.0`, and the sum of two negative zeros is `−0.0`. -/
theorem test_zero_signs :
    f32Add 0x36480002#32 0xB6480002#32 = 0x00000000#32 ∧ f32Add 0x80000000#32 0x80000000#32 = 0x80000000#32 := by decide

/-- The largest finite number doubled is infinity; the smallest subnormal halved rounds to zero. -/
theorem test_overflow_underflow :
    f32Add 0x7F7FFFFF#32 0x7F7FFFFF#32 = 0x7F800000#32 ∧ f32Div 0x00000001#32 0x40000000#32 = 0x00000000#32 := by decide

/-! ### Witnesses: hypotheses of the statements, met together -/

/-- The operands of `DecodeOfEncode` and `TableWordsDecode` at their ends. -/
theorem witness_well_formed :
    (Instr.selch 17#5).wellFormed = true ∧ (Instr.acqavg 17#5 65535#16).wellFormed = true ∧
    (Instr.acqavg 0#5 1#16).wellFormed = true ∧ (Instr.start 15#8).wellFormed = true ∧ (Instr.setmode 2#8).wellFormed = true ∧
    (Instr.frameWr 0x7F#7 0xFFFFFF#24).wellFormed = true ∧ encode (.start 15#8) = .command 0x110000000F#40 := by decide

/-- `EncodeOfDecode` and `DecodeRefusesExactly`: a word that decodes. -/
theorem witness_decodes : decode 0x2300000001#40 = .ok (.rdallavg 1#16) := by decide

/-- `RefusedWord`, each clause at its boundary. -/
theorem witness_refused :
    RefusedWord 0x0000000000#40 ∧ RefusedWord 0x1200000001#40 ∧ RefusedWord 0x0180000000#40 ∧ RefusedWord 0x0280000000#40 ∧
    RefusedWord 0x2000000012#40 ∧ RefusedWord 0x2100120001#40 ∧ RefusedWord 0x2300000000#40 ∧ RefusedWord 0x1100000010#40 ∧
    RefusedWord 0x3000000003#40 ∧ ¬ RefusedWord 0x3000000002#40 := by
  simp only [RefusedWord]
  refine ⟨?_, ?_, ?_, ?_, ?_, ?_, ?_, ?_, ?_, ?_⟩ <;> decide

/-- `ControlBytes`: a configuration with the default read bit. -/
theorem witness_default_read_bit : cfgEx.readBitPos = 0 := by decide

/-- `StepRunsDecodedCommand`: one context, the other, and both with either chosen. -/
theorem witness_presented :
    let w := 0x1200000000#40
    let w' := 0x3100000003#40
    let both (x : Ctx) (m t : CommandWord) : State := { presented [m] [t] with env := { idle.env with arb := [x] } }
    decode w = .ok .stop ∧ (presented [w] []).busy = false ∧ (presented [w] []).xfer = none ∧
    (∃ u, Presented .main w (presented [w] []) u) ∧ (∃ u, Presented .timer w (presented [] [w]) u) ∧
    (∃ u, Presented .main w (both .main w w') u) ∧ (∃ u, Presented .timer w (both .timer w' w) u) :=
  ⟨by decide, rfl, rfl, ⟨_, [], rfl, .inl ⟨rfl, rfl⟩⟩, ⟨_, [], rfl, .inl ⟨rfl, rfl⟩⟩,
    ⟨_, [], rfl, .inr ⟨by decide, rfl, rfl⟩⟩, ⟨_, [], rfl, .inr ⟨by decide, rfl, rfl⟩⟩⟩

/-- `Running` and `isLatched`: a primitive operation; `RdregReads` and the other single-phase statements ask no more. -/
theorem witness_running : isLatched (.rdreg 0x7F#7) = true ∧ Running (.rdreg 0x7F#7) (at_ (.rdreg 0x7F#7) 0) ∧
    (at_ (.rdreg 0x7F#7) 0).ph = 0 := ⟨rfl, ⟨rfl, rfl, rfl⟩, rfl⟩

/-- Both answers of a read frame: RDREG, RDVOLT, CHKCOM, FRAME.RD, phase 4. -/
theorem witness_read_answers (i : Instr) (n : Fin 7) :
    (at_ i n).env.nextRead = .bytes 0x00#8 0x12#8 0x34#8 0x56#8 ∧ (at_with i n [.none] [] []).env.nextRead = .none := ⟨rfl, rfl⟩

theorem witness_wrreg : Running (.wrreg 0x7F#7 0xFFFFFF#24) (at_ (.wrreg 0x7F#7 0xFFFFFF#24) 0) := ⟨rfl, rfl, rfl⟩
theorem witness_selch : Running (.selch 17#5) (at_ (.selch 17#5) 0) := ⟨rfl, rfl, rfl⟩
theorem witness_start : Running (.start 15#8) (at_ (.start 15#8) 0) := ⟨rfl, rfl, rfl⟩
theorem witness_stop : Running .stop (at_ .stop 0) := ⟨rfl, rfl, rfl⟩
theorem witness_rdvolt : Running .rdvolt (at_ .rdvolt 0) := ⟨rfl, rfl, rfl⟩
theorem witness_chkcom : Running .chkcom (at_ .chkcom 0) := ⟨rfl, rfl, rfl⟩

/-- SETMODE, with both answers of the write frame. -/
theorem witness_setmode :
    Running (.setmode 2#8) (at_ (.setmode 2#8) 0) ∧ (at_ (.setmode 2#8) 0).env.nextWrite = true ∧
    (at_with (.setmode 2#8) 0 [] [false] []).env.nextWrite = false := ⟨⟨rfl, rfl, rfl⟩, rfl, rfl⟩

/-- SETRATE and RESET. -/
theorem witness_setrate : (15#8).toNat < 16 ∧ idle.busy = false := by decide

/-- CHKCOM's two compares: the configured identity in every byte place, and its complement. -/
theorem witness_identity (c : Cfg) :
    prodidExpect c &&& prodidMask c = prodidExpect c ∧ ~~~prodidExpect c &&& prodidMask c ≠ prodidExpect c := by
  unfold prodidExpect prodidMask
  generalize c.prodidByte = p
  generalize c.prodidIdentity = b
  revert p b
  decide

/-- A ready sample under either sense: WAITRDY and phase 2. -/
theorem witness_sample_ready (i : Instr) (n : Fin 7) : SampleReady { at_ i n with seenhi := true } := ⟨rfl, .inr rfl⟩

/-- A high sample at the last place a bounded wait has, for any bound the configuration may hold. -/
theorem witness_sample_timeout (i : Instr) (n : Fin 7) (t : Nat) (h : tReady cfg = some (t + 1)) :
    SampleTimeout { at_with i n [] [] [.high] with p := t } :=
  ⟨(fun r => nomatch (r.1)), h⟩

/-- `BoundedWaitTimesOut`: a bound of three, two samples taken. -/
theorem witness_bounded_wait :
    let s : State := { at_with .waitrdy 0 [] [] [.high] with p := 2 }
    Running .waitrdy s ∧ s.ph = 0 ∧ s.env.nextLevel = .high ∧ tReady { cfgEx with tReadyLess1 := some 2 } = some (s.p + 1) :=
  ⟨⟨rfl, rfl, rfl⟩, rfl, rfl, rfl⟩

/-- A high sample that neither ends the wait nor reaches the bound. -/
theorem witness_sample_stays (i : Instr) (n : Fin 7) :
    ∃ p, ¬ SampleReady { at_with i n [] [] [.high] with p := p } ∧ ¬ SampleTimeout { at_with i n [] [] [.high] with p := p } := by
  by_cases h : tReady cfg = some 1
  · exact ⟨1, (fun r => nomatch (r.1)), fun r => absurd (h.symm.trans r.2) (show some 1 ≠ some 2 by decide)⟩
  · exact ⟨0, (fun r => nomatch (r.1)), fun r => h r.2⟩

theorem witness_waitrdy : Running .waitrdy (at_ .waitrdy 0) := ⟨rfl, rfl, rfl⟩

/-- The composite operations at each phase of the table. -/
theorem witness_composites (n : Fin 7) :
    (compositeOf (.acq1 17#5) = some (acq1Of 17#5) ∧ Running (.acq1 17#5) (at_ (.acq1 17#5) n)) ∧
    (compositeOf (.acqavg 17#5 65535#16) = some (acqavgOf 17#5 65535#16) ∧
      Running (.acqavg 17#5 65535#16) (at_ (.acqavg 17#5 65535#16) n)) ∧
    (compositeOf .rdall = some rdallOf ∧ Running .rdall (at_ .rdall n)) ∧
    (compositeOf (.rdallavg 1#16) = some (rdallavgOf 1#16) ∧ Running (.rdallavg 1#16) (at_ (.rdallavg 1#16) n)) ∧
    (at_ (.rdallavg 1#16) n).ph = n ∧ (rdallavgOf 1#16).averaged = true :=
  ⟨⟨rfl, rfl, rfl, rfl⟩, ⟨rfl, rfl, rfl, rfl⟩, ⟨rfl, rfl, rfl, rfl⟩, ⟨rfl, rfl, rfl, rfl⟩, rfl, rfl⟩

/-- `StepRunsAskedFrame`: a write frame asked of an idle block. -/
theorem witness_asked_frame :
    let s := idle.withFetchWord 32 0x0A000001
    s.busy = false ∧ s.xfer = some [0x0A#8, 0x00#8, 0x00#8, 0x01#8] ∧
    decodeFrame [0x0A#8, 0x00#8, 0x00#8, 0x01#8] = .ok (.frameWr 0x05#7 0x000001#24) := by decide

/-- `IdleBlockHoldsState`. -/
theorem witness_idle : idle.busy = false ∧ idle.xfer = none ∧ idle.port.main = [] ∧ idle.port.timer = [] := ⟨rfl, rfl, rfl, rfl⟩

/-- `AcceptanceLatches` and `IllFormedOperandRefused`. -/
theorem witness_acceptance :
    isLatched .waitrdy = true ∧ Instr.waitrdy.wellFormed = true ∧ (Instr.setrate 16#8).wellFormed = false ∧ idle.busy = false := by
  decide

/-- `BusyBlockAcceptsNothing`: SETRATE presented to a block that waits. -/
theorem witness_busy : IsCommand (.setrate 3#8) ∧ (at_ .waitrdy 0).busy = true ∧ isLatched (.setrate 3#8) = false ∧
    (at_ .waitrdy 0).op ≠ latchedOp .stop := ⟨⟨_, rfl⟩, rfl, rfl, by decide⟩

/-- `RefusedWordSetsBadopOnly`: `RefusedWord` is `witness_refused`. -/
theorem witness_refused_presented :
    let s := presented [0x3000000003#40, 0x1200000000#40] []
    s.busy = false ∧ s.xfer = none ∧ ∃ u, Presented .main 0x3000000003#40 s u :=
  ⟨rfl, rfl, _, [0x1200000000#40], rfl, .inl ⟨rfl, rfl⟩⟩

/-- `PhasesMatchPrimitives` at its five phases: `witness_composites`; at phase 2 with a ready sample. -/
theorem witness_phase_ready : Running (.acq1 0#5) { at_ (.acq1 0#5) 2 with seenhi := true } ∧
    SampleReady { at_ (.acq1 0#5) 2 with seenhi := true } := ⟨⟨rfl, rfl, rfl⟩, rfl, .inr rfl⟩

/-- `Acq1RunsToCompletion`. -/
theorem witness_acq1_run :
    let s : State := { presented [0x200000000E#40] [] with env := { idle.env with ready := [.high, .low] } }
    s.busy = false ∧ s.xfer = none ∧ s.port.main = [0x200000000E#40] ∧ s.port.timer = [] ∧
    decode 0x200000000E#40 = .ok (.acq1 14#5) ∧ s.env.reads = [.bytes 0x00#8 0x12#8 0x34#8 0x56#8] ∧
    s.env.ready = [.high, .low] := by decide

/-- `CompositesRunToCompletion`: RDALLAVG over twelve cycles. -/
theorem witness_composite_run :
    let s : State := { idle with env := { idle.env with ready := (List.replicate 12 [Level.high, Level.low]).flatten } }
    compositeOf (.rdallavg 2#16) = some (rdallavgOf 2#16) ∧ cycles (rdallavgOf 2#16) = 12 ∧
    (Instr.rdallavg 2#16).wellFormed = true ∧ s.busy = false ∧
    s.env.ready = (List.replicate (cycles (rdallavgOf 2#16)) [Level.high, Level.low]).flatten ++ [] := by decide

/-- `AllFailedRunIsSentinel`: ACQAVG over three cycles and RDALLAVG over six, no data read answered. -/
theorem witness_all_failed_run :
    let env (m : Nat) : Env :=
      { idle.env with
        reads := List.replicate m ReadAnswer.none ++ [.bytes 0#8 0#8 0#8 0#8]
        ready := (List.replicate m [Level.high, Level.low]).flatten ++ [.low] }
    (compositeOf (.acqavg 17#5 3#16) = some (acqavgOf 17#5 3#16) ∧ cycles (acqavgOf 17#5 3#16) = 3 ∧
      (Instr.acqavg 17#5 3#16).wellFormed = true ∧ (acqavgOf 17#5 3#16).averaged = true ∧ (acqavgOf 17#5 3#16).batch = false) ∧
    (compositeOf (.rdallavg 1#16) = some (rdallavgOf 1#16) ∧ cycles (rdallavgOf 1#16) = 6 ∧
      (Instr.rdallavg 1#16).wellFormed = true ∧ (rdallavgOf 1#16).averaged = true ∧ (rdallavgOf 1#16).batch = true) ∧
    ({ idle with env := env 3 } : State).busy = false ∧
    (env 6).reads = List.replicate 6 ReadAnswer.none ++ [.bytes 0#8 0#8 0#8 0#8] ∧
    (env 6).ready = (List.replicate 6 [Level.high, Level.low]).flatten ++ [.low] := by decide

/-- `HighLineHoldsWait`. -/
theorem witness_unbounded_wait :
    tReady cfgEx = none ∧ Running .waitrdy (at_with .waitrdy 0 [] [] [.high, .high, .high]) ∧
    (at_with .waitrdy 0 [] [] [.high, .high, .high]).env.ready = List.replicate 3 Level.high ++ [] :=
  ⟨rfl, ⟨rfl, rfl, rfl⟩, rfl⟩

/-- The numbers' ends: `IntegerConversionExact`, `VoltOfRawIsOdd`, `AverageOfOneIsSample`, `AllFailedAverageIsSentinel`. -/
theorem witness_numbers :
    (-16777216 : Int).natAbs ≤ 2 ^ 24 ∧ ((-8388607 : Int) ≠ 0 ∧ (-8388608 : Int) < -8388607 ∧ (-8388607 : Int) ≤ 8388607) ∧
    (f32Exponent 0x7F7FFFFF#32 ≠ 255 ∧ (0x7F7FFFFF#32 : F32) ≠ 0x80000000#32) ∧
    (f32Exponent 0x80000001#32 ≠ 255 ∧ (0x80000001#32 : F32) ≠ 0x80000000#32) ∧ (1 ≤ 65535 ∧ 65535 ≤ 65535) := by decide

/-- A tie, for the last clause of `RoundingIsNearestEven`: 3 / 2. -/
theorem witness_tie : 2 * (roundShift 3 1 * 2 ^ 1 - 3) = 2 ^ 1 := by decide

/-- `ConfigWordFields`. -/
theorem witness_mode_written : ({ idle with modev := true, mode := 2#2 } : State).modev = true := rfl

/-- The invariant in a state that executes an operation, whose step answers a next state: `StepKeepsInv`, `InvStateSteps`,
`StatusWordBits`. -/
theorem witness_invariant : RunInv (at_ .stop 0) ∧ ∃ t, step (at_ .stop 0) = .next t := by
  refine ⟨⟨rfl, rfl, ?_, (fun h => nomatch (h)), fun _ => ⟨.stop, by decide, rfl, rfl, rfl, rfl⟩⟩, ?_⟩
  · exact ⟨(fun h => nomatch (h)), (fun h => nomatch (h)), (fun h => nomatch (h)), (fun h => nomatch (h))⟩
  · exact ⟨complete (stopPhase cfg (at_ .stop 0)), rfl⟩

/-- `StartedConversionIsStopped` at the stop phase, whose step answers a next state. -/
theorem witness_started_stop :
    let s : State := { at_ .rdall 3 with conv := true }
    compositeOf .rdall = some rdallOf ∧ Running .rdall s ∧ RunInv s ∧ s.ph ∈ [2, 3, 5] ∧ ∃ t, step s = .next t := by
  refine ⟨rfl, ⟨rfl, rfl, rfl⟩, ⟨rfl, rfl, ?_, (fun h => nomatch (h)), fun _ => ⟨.rdall, by decide, ?_⟩⟩, by decide, ?_⟩
  · exact ⟨(fun h => nomatch (h)), (fun h => nomatch (h)), (fun h => nomatch (h)), (fun h => nomatch (h))⟩
  · exact ⟨(fun h => nomatch (h)), rfl, rfl, rfl, rfl, rfl⟩
  · exact ⟨goto 4 (stopPhase cfg { at_ .rdall 3 with conv := true }), rfl⟩

/-- The same at the wait phase, in its first sample. -/
theorem witness_started_wait :
    let s : State := { at_ .rdall 2 with conv := true }
    Running .rdall s ∧ RunInv s ∧ s.ph ∈ [2, 3, 5] ∧ ∃ t, step s = .next t := by
  refine ⟨⟨rfl, rfl, rfl⟩, ⟨rfl, rfl, ?_, (fun h => nomatch (h)), fun _ => ⟨.rdall, by decide, ?_⟩⟩, by decide, ?_⟩
  · exact ⟨(fun h => nomatch (h)), (fun h => nomatch (h)), (fun h => nomatch (h)), (fun h => nomatch (h))⟩
  · refine ⟨(fun h => nomatch (h)), rfl, rfl, rfl, rfl, rfl, fun t h => ?_⟩
    simp [tReady] at h
    obtain ⟨a, _, rfl⟩ := h
    exact Nat.succ_pos a
  · exact ⟨pollStep cfg (goto 3) (goto 5) { at_ .rdall 2 with conv := true }, rfl⟩

/-- The same at the timeout phase, which a configuration with a bound has. -/
theorem witness_started_timeout (h : tReady cfg ≠ none) :
    let s : State := { at_ .rdall 5 with conv := true, st := { Status.clear with timeout := true } }
    Running .rdall s ∧ RunInv s ∧ s.ph ∈ [2, 3, 5] := by
  refine ⟨⟨rfl, rfl, rfl⟩, ⟨rfl, rfl, ?_, (fun h => nomatch (h)), fun _ => ⟨.rdall, by decide, ?_⟩⟩, by decide⟩
  · exact ⟨(fun h => nomatch (h)), (fun h => nomatch (h)), (fun h => nomatch (h)), fun _ => h⟩
  · exact ⟨(fun h => nomatch (h)), rfl, rfl, rfl, rfl, rfl, rfl⟩

/-- `StepEventsAreWhole` and `OperationsWriteOnlyTheirColumn`: a step and an instruction that answer a next state, with
chip-select released. -/
theorem witness_step_answers :
    (∃ t, step (at_ .stop 0) = .next t) ∧ (at_ .stop 0).cs = false ∧ ∃ t, exec .stop (at_ .stop 0) = .next t :=
  ⟨⟨complete (stopPhase cfg (at_ .stop 0)), rfl⟩, rfl, ⟨complete (stopPhase cfg (at_ .stop 0)), rfl⟩⟩

end Sys2Proof.Tests
end

section
/-! The rounding of `00_scope.md` R14: the tie rule of `roundShift`, the decoding of a magnitude pattern under a sign, and
the exactness of a rounding that drops no bit. -/

namespace Sys2Proof.Numbers
open Sys2Proof Sys2Proof.Machine

/-! ### Rounding to nearest -/

/-- What `roundShift` answers, by quotient and remainder. -/
theorem roundShift_eq (m k : Nat) :
    roundShift m k =
      if 2 ^ k < 2 * (m % 2 ^ k) ∨ (2 * (m % 2 ^ k) = 2 ^ k ∧ m / 2 ^ k % 2 = 1) then m / 2 ^ k + 1 else m / 2 ^ k := by
  simp only [roundShift, Nat.shiftRight_eq_div_pow]

/-- Settles O39: the remainder of `m / 2^k` is below the half, above it, or the half itself, where the parity of the quotient
decides. -/
theorem roundingIsNearestEven : Obligations.RoundingIsNearestEven := by
  intro m k
  have hsplit : m / 2 ^ k * 2 ^ k + m % 2 ^ k = m := Nat.div_add_mod' m (2 ^ k)
  have hrem : m % 2 ^ k < 2 ^ k := Nat.mod_lt m (Nat.two_pow_pos k)
  rw [roundShift_eq]
  split
  next hup =>
    rw [Nat.add_one_mul (m / 2 ^ k) (2 ^ k)]
    omega
  next hdown => omega

/-! ### The fields of a pattern -/

@[simp] theorem f32Sign_f32Neg (x : F32) : f32Sign (f32Neg x) = !f32Sign x := by
  simp [f32Sign, f32Neg]

@[simp] theorem f32Exponent_f32Neg (x : F32) : f32Exponent (f32Neg x) = f32Exponent x := by
  simp [f32Exponent, f32Neg, BitVec.extractLsb'_xor]

@[simp] theorem f32Fraction_f32Neg (x : F32) : f32Fraction (f32Neg x) = f32Fraction x := by
  simp [f32Fraction, f32Neg, BitVec.extractLsb'_xor]

/-- A magnitude pattern is below the sign bit. -/
theorem f32Sign_f32Signed (neg : Bool) {p : Nat} (hp : p < 2 ^ 31) : f32Sign (f32Signed neg p) = neg := by
  have hofNat : f32Sign (BitVec.ofNat 32 p) = false := by
    simp only [f32Sign, BitVec.getLsbD_ofNat, Nat.testBit_lt_two_pow hp, Bool.and_false]
  cases neg <;> simp [f32Signed, hofNat]

theorem f32Exponent_f32Signed (neg : Bool) {p : Nat} (hp : p < 2 ^ 31) :
    f32Exponent (f32Signed neg p) = p / 2 ^ 23 := by
  have hofNat : f32Exponent (BitVec.ofNat 32 p) = p / 2 ^ 23 := by
    simp only [f32Exponent, BitVec.extractLsb'_toNat, BitVec.toNat_ofNat, Nat.shiftRight_eq_div_pow]
    omega
  cases neg <;> simp [f32Signed, hofNat]

theorem f32Fraction_f32Signed (neg : Bool) (p : Nat) : f32Fraction (f32Signed neg p) = p % 2 ^ 23 := by
  have hofNat : f32Fraction (BitVec.ofNat 32 p) = p % 2 ^ 23 := by
    simp only [f32Fraction, BitVec.extractLsb'_toNat, BitVec.toNat_ofNat, Nat.shiftRight_eq_div_pow]
    omega
  cases neg <;> simp [f32Signed, hofNat]

/-- The pattern of `u` last places of weight `2^(p - 149)` stands for `±u · 2^(p - 149)`: `u` has 24 bits, the leading one
set unless the number is subnormal. -/
theorem f32Value_f32Signed (neg : Bool) {p u : Nat} (hp : p < 254) (hu : u < 2 ^ 24) (hlead : 2 ^ 23 ≤ u ∨ p = 0) :
    f32Value (f32Signed neg (p * 2 ^ 23 + u)) = .fin neg u ((p : Int) - 149) := by
  have hpat : p * 2 ^ 23 + u < 2 ^ 31 := by omega
  simp only [f32Value, f32Sign_f32Signed neg hpat, f32Exponent_f32Signed neg hpat, f32Fraction_f32Signed]
  by_cases hnormal : 2 ^ 23 ≤ u
  · have hexp : (p * 2 ^ 23 + u) / 2 ^ 23 = p + 1 := by omega
    have hfrac : (p * 2 ^ 23 + u) % 2 ^ 23 + 2 ^ 23 = u := by omega
    rw [hexp, hfrac, if_neg (by omega), if_neg (by omega), Nat.cast_succ]
    congr 1
    omega
  · obtain rfl : p = 0 := hlead.resolve_left hnormal
    have hexp : (0 * 2 ^ 23 + u) / 2 ^ 23 = 0 := by omega
    have hfrac : (0 * 2 ^ 23 + u) % 2 ^ 23 = u := by omega
    rw [hexp, hfrac, if_neg (by decide), if_pos rfl]
    rfl

/-! ### Roundings that drop no bit -/

/-- The last kept bit is never below the subnormal range. -/
theorem neg_149_le_lastPlace (m : Nat) (e : Int) : -149 ≤ lastPlace m e := le_max_right ..

section Exact
variable {m : Nat} {e : Int}

/-- A number of at most 24 bits, not below the subnormal range, has its last kept bit at or under its own last bit. -/
theorem lastPlace_le (hm : m < 2 ^ 24) (he : -149 ≤ e) : lastPlace m e ≤ e := by
  have hlog : m.log2 ≤ 23 := by
    rcases Nat.eq_zero_or_pos m with rfl | hpos
    · decide
    · exact Nat.le_of_lt_succ ((Nat.log2_lt hpos.ne').2 hm)
  simp only [lastPlace]
  omega

/-- Where the last kept bit is at or under the number's own last bit, the units are the number shifted up. -/
theorem roundUnits_of_lastPlace_le (h : lastPlace m e ≤ e) : roundUnits m e = m * 2 ^ (e - lastPlace m e).toNat := by
  rw [roundUnits, if_pos h, Nat.shiftLeft_eq]

/-- The units of a number that keeps every bit have at most 24 bits. -/
theorem roundUnits_lt (h : lastPlace m e ≤ e) : roundUnits m e < 2 ^ 24 := by
  have hshift : m.log2 + 1 + (e - lastPlace m e).toNat ≤ 24 := by
    simp only [lastPlace] at h ⊢
    omega
  calc roundUnits m e
      = m * 2 ^ (e - lastPlace m e).toNat := roundUnits_of_lastPlace_le h
    _ < 2 ^ (m.log2 + 1) * 2 ^ (e - lastPlace m e).toNat :=
        Nat.mul_lt_mul_of_pos_right Nat.lt_log2_self (Nat.two_pow_pos _)
    _ = 2 ^ (m.log2 + 1 + (e - lastPlace m e).toNat) := (Nat.pow_add ..).symm
    _ ≤ 2 ^ 24 := Nat.pow_le_pow_right (by decide) hshift

/-- Above the subnormal range the units' leading bit is bit 23. -/
theorem le_roundUnits (hpos : 0 < m) (h : lastPlace m e ≤ e) (hnormal : lastPlace m e ≠ -149) :
    2 ^ 23 ≤ roundUnits m e := by
  have hshift : m.log2 + (e - lastPlace m e).toNat = 23 := by
    simp only [lastPlace] at h hnormal ⊢
    omega
  calc 2 ^ 23
      = 2 ^ m.log2 * 2 ^ (e - lastPlace m e).toNat := by rw [← Nat.pow_add, hshift]
    _ ≤ m * 2 ^ (e - lastPlace m e).toNat := Nat.mul_le_mul_right _ (Nat.log2_self_le hpos.ne')
    _ = roundUnits m e := (roundUnits_of_lastPlace_le h).symm

/-- A rounding that drops no bit, below 2^128: the pattern stands for the units at their last place. -/
theorem f32Value_roundF32 (neg : Bool) (hpos : 0 < m) (h : lastPlace m e ≤ e) (hfinite : lastPlace m e < 105) :
    f32Value (roundF32 neg m e) = .fin neg (roundUnits m e) (lastPlace m e) := by
  have hlt : roundUnits m e < 2 ^ 24 := roundUnits_lt h
  have hmin : -149 ≤ lastPlace m e := neg_149_le_lastPlace m e
  have hlead : 2 ^ 23 ≤ roundUnits m e ∨ (lastPlace m e + 149).toNat = 0 := by
    by_cases hsub : lastPlace m e = -149
    · exact .inr (by rw [hsub]; rfl)
    · exact .inl (le_roundUnits hpos h hsub)
  have hmagnitude : roundMagnitude m e = (lastPlace m e + 149).toNat * 2 ^ 23 + roundUnits m e := by
    rw [roundMagnitude, Nat.shiftLeft_eq]
    omega
  rw [roundF32, if_neg hpos.ne', hmagnitude, f32Value_f32Signed neg (by omega) hlt hlead]
  congr 1
  omega

/-- The units at their last place are the number itself, in units of 2^(-149). -/
theorem roundUnits_mul (h : lastPlace m e ≤ e) :
    roundUnits m e * 2 ^ (lastPlace m e + 149).toNat = m * 2 ^ (e + 149).toNat := by
  have hmin : -149 ≤ lastPlace m e := neg_149_le_lastPlace m e
  rw [roundUnits_of_lastPlace_le h, Nat.mul_assoc, ← Nat.pow_add]
  congr 2
  omega

end Exact

/-! ### The conversion of an integer -/

theorem signedNat_mul_two_pow (neg : Bool) (m k : Nat) : signedNat neg (m * 2 ^ k) = signedNat neg m * 2 ^ k := by
  cases neg <;> simp [signedNat]

/-- An integer is its magnitude under its sign. -/
theorem signedNat_natAbs (i : Int) : signedNat (decide (i < 0)) i.natAbs = i := by
  simp only [signedNat, decide_eq_true_eq]
  split <;> omega

/-- Settles O40: zero is `+0.0`, a magnitude of at most 24 bits drops no bit, and `2^24` itself drops only its last zero. -/
theorem integerConversionExact : Obligations.IntegerConversionExact := by
  intro i hi
  rcases Nat.eq_zero_or_pos i.natAbs with hzero | hpos
  · obtain rfl : i = 0 := Int.natAbs_eq_zero.1 hzero
    exact ⟨false, 0, -149, by decide, by decide, by decide⟩
  rcases hi.lt_or_eq with hlt | htop
  · have hplace : lastPlace i.natAbs 0 ≤ 0 := lastPlace_le hlt (by decide)
    have hvalue := f32Value_roundF32 (decide (i < 0)) hpos hplace (by omega)
    refine ⟨_, _, _, hvalue, neg_149_le_lastPlace _ _, ?_⟩
    calc signedNat (decide (i < 0)) (roundUnits i.natAbs 0) * 2 ^ (lastPlace i.natAbs 0 + 149).toNat
        = signedNat (decide (i < 0)) (i.natAbs * 2 ^ 149) := by
          rw [← signedNat_mul_two_pow, roundUnits_mul hplace]; rfl
      _ = i * 2 ^ 149 := by rw [signedNat_mul_two_pow, signedNat_natAbs]
  · obtain rfl | rfl : i = 2 ^ 24 ∨ i = -2 ^ 24 := by omega
    · exact ⟨false, 2 ^ 23, 1, by decide, by decide, by decide⟩
    · exact ⟨true, 2 ^ 23, 1, by decide, by decide, by decide⟩

end Sys2Proof.Numbers
end

section
/-! The host's view of the state (`10_state.md` R45 to R53): the words it inspects, and the state after reset. -/

namespace Sys2Proof.HostView
open Sys2Proof Sys2Proof.Machine Sys2Proof.Config Sys2Proof.Safety

/-- Settles O45: each bit is the flag that the concatenation puts there; bit 2 is `CS`, which the run invariant says is
released. -/
theorem statusWordBits : Obligations.StatusWordBits := by
  intro s
  have hcs : (statusWord s).getLsbD 2 = s.cs := by
    simp (disch := decide) only [statusWord, getLsbD_append_low, getLsbD_append_high, BitVec.getLsbD_ofBool]
    rfl
  have hbok : ∀ k : Fin 6, (statusWord s).getLsbD (8 + k.val) = s.bok[k] := by
    intro k
    fin_cases k <;>
      simp (disch := decide) only [statusWord, getLsbD_append_low, getLsbD_append_high, BitVec.getLsbD_ofBool] <;> rfl
  have hhigh : ∀ j, 21 ≤ j → (statusWord s).getLsbD j = false := by
    intro j hj
    simp (disch := omega) only [statusWord, getLsbD_append_high, BitVec.getLsbD_zero]
  refine ⟨?_, ?_, hcs, ?_, ?_, ?_, ?_, ?_, hbok, ?_, ?_, ?_, ?_, ?_, ?_, ?_, hhigh, fun hinv => hcs.trans hinv.released⟩
  all_goals
    simp (disch := decide) only [statusWord, getLsbD_append_low, getLsbD_append_high, BitVec.getLsbD_ofBool]
    rfl

/-- Settles O46: each field is a part of the concatenation; the mode shown is `MODE` once `MODEV` is set. -/
theorem configWordFields : Obligations.ConfigWordFields := by
  intro s
  refine ⟨?_, fun hmodev => ?_, ?_, ?_⟩
  · exact BitVec.extractLsb'_append_eq_right
  · have hmode : shownMode s = s.mode := by simp only [shownMode, hmodev, if_true]
    rw [configWord, hmode, BitVec.extractLsb'_append_eq_of_le (by decide)]
    exact BitVec.extractLsb'_append_eq_right
  · simp (disch := decide) only [configWord, getLsbD_append_low, getLsbD_append_high, BitVec.getLsbD_ofBool]
    rfl
  · rw [configWord, BitVec.extractLsb'_append_eq_of_le (by decide), BitVec.extractLsb'_append_eq_of_le (by decide)]
    exact BitVec.extractLsb'_append_eq_left

/-! The fields of `SEQ` (`10_state.md` R46, index 17). -/

theorem seqWord_code (s : State) : (seqWord s).extractLsb' 0 8 = s.op.code :=
  BitVec.extractLsb'_append_eq_right

theorem seqWord_phase (s : State) : ((seqWord s).extractLsb' 8 4).toNat = s.ph.val := by
  have hfield : (seqWord s).extractLsb' 8 4 = BitVec.ofNat 4 s.ph.val := by
    rw [seqWord, BitVec.extractLsb'_append_eq_of_le (by decide)]
    exact BitVec.extractLsb'_append_eq_right
  rw [hfield, BitVec.toNat_ofNat]
  omega

theorem seqWord_channel (s : State) : ((seqWord s).extractLsb' 12 3).toNat = s.k.val := by
  have hfield : (seqWord s).extractLsb' 12 3 = BitVec.ofNat 3 s.k.val := by
    rw [seqWord, BitVec.extractLsb'_append_eq_of_le (by decide), BitVec.extractLsb'_append_eq_of_le (by decide)]
    exact BitVec.extractLsb'_append_eq_right
  rw [hfield, BitVec.toNat_ofNat]
  omega

theorem seqWord_gap (s : State) : (seqWord s).getLsbD 15 = false := by
  simp (disch := decide) only [seqWord, getLsbD_append_low, getLsbD_append_high, BitVec.getLsbD_zero]

theorem seqWord_samples (s : State) : (seqWord s).extractLsb' 16 16 = s.samples := by
  rw [seqWord, BitVec.extractLsb'_append_eq_of_le (by decide), BitVec.extractLsb'_append_eq_of_le (by decide),
    BitVec.extractLsb'_append_eq_of_le (by decide)]
  exact BitVec.extractLsb'_append_eq_left

theorem inspect_above (s : State) {index : Nat} (h : 17 < index) : inspect s index = 0#32 := by
  obtain ⟨d, rfl⟩ : ∃ d, index = d + 18 := ⟨index - 18, by omega⟩
  rfl

/-- Settles O47: indices 0 to 16 answer a register or a word whole, index 17 the fields of `SEQ`, any other zero. -/
theorem inspectionIndices : Obligations.InspectionIndices := by
  intro s
  have hvb : ∀ k : Fin 6, inspect s (4 + k.val) = s.vb[k] := by
    intro k
    fin_cases k <;> rfl
  have hacc : ∀ k : Fin 6, inspect s (11 + k.val) = s.acc[k] := by
    intro k
    fin_cases k <;> rfl
  exact ⟨rfl, rfl, rfl, rfl, hvb, rfl, hacc, seqWord_code s, seqWord_phase s, seqWord_channel s, seqWord_gap s,
    seqWord_samples s, fun _ h => inspect_above s h⟩

/-- Settles O48: `State.reset` writes each value down. -/
theorem resetState : Obligations.ResetState := by
  have hbok : ∀ k : Fin 6, State.reset.bok[k] = false := by
    intro k
    fin_cases k <;> rfl
  exact ⟨rfl, rfl, rfl, rfl, rfl, rfl, rfl, rfl, rfl, rfl, rfl, rfl, rfl, rfl, hbok, rfl, rfl⟩

end Sys2Proof.HostView
end

section
/-! What `exec` and `step` run, said once: each instruction is a frame step, the ready wait, a composite operation, an
operation that acceptance performs whole, or a frame alone. Then what an answer of `exec` and of the phase table can be. -/

namespace Sys2Proof.Sequencer
open Sys2Proof Sys2Proof.Machine Sys2Proof.Config Sys2Proof.Safety Sys2Proof.Statements

/-! ### `CONV` and the opening of an average as updates of their own -/

/-- `CONV <- b`. -/
@[simps] def setConv (b : Bool) (s : State) : State := { s with conv := b }

/-- `AOK <- 1 ; S <- 0`. -/
@[simps] def openAverage (s : State) : State := { s with aok := true, samples := 0#16 }

@[simp] theorem selectPhase_eq (c : Cfg) (sel : BitVec 5) (s : State) :
    selectPhase c sel s = memWrite c c.aChctrl (chword c sel) s := rfl

@[simp] theorem startPhase_eq (c : Cfg) (r : BitVec 4) (s : State) :
    startPhase c r s = setConv true (memWrite c c.aCmd (startWord c r) s) := rfl

@[simp] theorem stopPhase_eq (c : Cfg) (s : State) : stopPhase c s = setConv false (memWrite c c.aCmd c.cmdStop s) := rfl

@[simp] theorem readVoltPhase_eq (c : Cfg) (s : State) : readVoltPhase c s = takeVolts c (memRead c c.aData s) := rfl

theorem clearAverage_cases (q : Acq) (s : State) :
    (q.averaged = true ∧ clearAverage q s = openAverage (setAccumulator q zeroVolt s)) ∨
    (q.averaged = false ∧ clearAverage q s = s) := by
  unfold clearAverage
  cases q.averaged <;> simp [openAverage]

/-! ### What each instruction runs -/

/-- The frame step of a primitive operation with one phase (`10_state.md` R38). -/
def frameAct : Instr → Option (State → State)
  | .rdreg a => some (memRead cfg a)
  | .wrreg a v => some (memWrite cfg a v)
  | .selch sel => some (selectPhase cfg sel)
  | .start r => some (startPhase cfg (rateCode r))
  | .stop => some (stopPhase cfg)
  | .waitrdy => none
  | .rdvolt => some (readVoltPhase cfg)
  | .acq1 _ => none
  | .acqavg _ _ => none
  | .rdall => none
  | .rdallavg _ => none
  | .setmode m => some (setmodePhase cfg m)
  | .setrate _ => none
  | .chkcom => some (chkcomPhase cfg)
  | .reset => none
  | .frameRd _ => none
  | .frameWr _ _ => none

section Kinds
variable {i : Instr} {q : Acq} {act : State → State}

theorem exec_frameAct (h : frameAct i = some act) (s : State) : exec i s = runOperation i id (onePhase act) s := by
  cases i <;> cases h <;> rfl

theorem exec_composite (h : compositeOf i = some q) (s : State) : exec i s = runOperation i id (acqPhase cfg q) s := by
  cases i <;> cases h <;> rfl

theorem exec_waitrdy (s : State) : exec .waitrdy s = runOperation .waitrdy enterWait (waitrdyPhase cfg) s := rfl

theorem exec_setrate (r : BitVec 8) (s : State) : exec (.setrate r) s = runImmediate (.setrate r) (setrateEffect r) s := rfl

theorem exec_reset (s : State) : exec .reset s = runImmediate .reset resetEffect s := rfl

theorem exec_frameRd (a : RegAddr) (s : State) : exec (.frameRd a) s = .next (memRead cfg a s) := rfl

theorem exec_frameWr (a : RegAddr) (v : Payload) (s : State) : exec (.frameWr a v) s = .next (memWrite cfg a v s) := rfl

/-- The instructions that acceptance latches: the frame steps, the ready wait, the composite operations. -/
theorem latched_cases (h : isLatched i = true) :
    (∃ act, frameAct i = some act) ∨ i = .waitrdy ∨ ∃ q, compositeOf i = some q := by
  cases i <;> simp [frameAct, compositeOf, isLatched] at h ⊢

/-- The instructions that acceptance does not latch. -/
theorem unlatched_cases (h : isLatched i = false) :
    (∃ r, i = .setrate r) ∨ i = .reset ∨ (∃ a, i = .frameRd a) ∨ ∃ a v, i = .frameWr a v := by
  cases i <;> simp [isLatched] at h ⊢

theorem isLatched_of_composite (h : compositeOf i = some q) : isLatched i = true := by
  cases i <;> cases h <;> rfl

theorem averaged_cases (h : compositeOf i = some q) (ha : q.averaged = true) :
    (∃ sel n, i = .acqavg sel n ∧ q = acqavgOf sel n) ∨ ∃ n, i = .rdallavg n ∧ q = rdallavgOf n := by
  cases i <;> cases h <;> simp [acqavgOf, rdallavgOf] at ha ⊢

theorem batch_cases (h : compositeOf i = some q) (hb : q.batch = true) : i = .rdall ∨ ∃ n, i = .rdallavg n := by
  cases i <;> cases h <;> simp at hb ⊢

theorem toNat_pos_of_countOk {n : BitVec 16} (h : countOk n = true) : 0 < n.toNat := by
  have hne : n ≠ 0#16 := of_decide_eq_true h
  exact Nat.pos_of_ne_zero fun hz => hne (BitVec.eq_of_toNat_eq hz)

/-- An averaged operation that was accepted takes at least one sample (`30_encoding.md` R99 c). -/
theorem count_pos (h : compositeOf i = some q) (hw : i.wellFormed = true) (ha : q.averaged = true) : 0 < q.n.toNat := by
  rcases averaged_cases h ha with ⟨sel, n, rfl, rfl⟩ | ⟨n, rfl, rfl⟩
  · exact toNat_pos_of_countOk (Bool.and_elim_right hw)
  · exact toNat_pos_of_countOk hw

end Kinds

/-! ### What the phase table can answer -/

/-- One answer of a phase of the composite operation `q` (`42_acquisition.md` R191). -/
inductive AcqStep (q : Acq) (s : State) : State → Prop
  | select (hph : s.ph = 0) : AcqStep q s (goto 1 (clearAverage q (selectPhase cfg (acqSelector q s) s)))
  | start (hph : s.ph = 1) : AcqStep q s (goto 2 (enterWait (startPhase cfg s.rate s)))
  | stay (hph : s.ph = 2) (hopen : tReady cfg ≠ some (s.p + 1)) : AcqStep q s (pollSample s)
  | ready (hph : s.ph = 2) : AcqStep q s (goto 3 (pollSample s))
  | timeout (hph : s.ph = 2) (hbound : tReady cfg = some (s.p + 1)) : AcqStep q s (goto 5 (flagTimeout (pollSample s)))
  | stop (hph : s.ph = 3) : AcqStep q s (goto 4 (stopPhase cfg s))
  | read (hph : s.ph = 4) : AcqStep q s (endOfSample q (readVoltPhase cfg s))
  | giveUp (hph : s.ph = 5) : AcqStep q s (endOfSample q (takeSentinel (stopPhase cfg s)))
  | finish (hph : s.ph = 6) (havg : q.averaged = true) : AcqStep q s (endOfChannel q (takeAverage q s))

/-- A sample leaves the wait phase open, satisfies it, or reaches the bound (`41_channel_primitives.md` R150, R152). -/
theorem pollStep_outcomes (c : Cfg) (ready timeout : State → State) (s : State) :
    (tReady c ≠ some (s.p + 1) ∧ pollStep c ready timeout s = pollSample s) ∨
    pollStep c ready timeout s = ready (pollSample s) ∨
    (tReady c = some (s.p + 1) ∧ pollStep c ready timeout s = timeout (flagTimeout (pollSample s))) := by
  rcases pollStep_cases c ready timeout s with ⟨hr, heq⟩ | ⟨-, heq⟩ | ⟨hr, heq⟩
  · rcases pollResult_cases c s with ⟨h, -⟩ | ⟨h, -⟩ | ⟨-, hopen⟩
    · cases h.symm.trans hr
    · cases h.symm.trans hr
    · exact .inl ⟨hopen, heq⟩
  · exact .inr (.inl heq)
  · rcases pollResult_cases c s with ⟨h, -⟩ | ⟨-, hbound⟩ | ⟨h, -⟩
    · cases h.symm.trans hr
    · exact .inr (.inr ⟨hbound, heq⟩)
    · cases h.symm.trans hr

/-- Whatever the phase table answers is one of the answers above. -/
theorem acqPhase_acqStep {q : Acq} {s t : State} (h : acqPhase cfg q s = .next t) : AcqStep q s t := by
  rcases acqPhase_cases cfg q s with ⟨hph, heq⟩ | ⟨hph, heq⟩ | ⟨hph, heq⟩ | ⟨hph, heq⟩ | ⟨hph, heq⟩ | ⟨hph, heq⟩ |
    ⟨hph, havg, heq⟩ | ⟨-, -, heq⟩ <;> rw [heq] at h <;> cases h
  · exact .select hph
  · exact .start hph
  · rcases pollStep_outcomes cfg (goto 3) (goto 5) s with ⟨hopen, heq⟩ | heq | ⟨hbound, heq⟩ <;> rw [heq]
    · exact .stay hph hopen
    · exact .ready hph
    · exact .timeout hph hbound
  · exact .stop hph
  · exact .read hph
  · exact .giveUp hph
  · exact .finish hph havg

/-! ### What `exec` can answer -/

/-- What follows acceptance in the same step: WAITRDY enters its wait phase (log 10). -/
def entry (i : Instr) : State → State := if i = .waitrdy then enterWait else id

@[simp] theorem entry_waitrdy : entry .waitrdy = enterWait := rfl

theorem entry_of_ne {i : Instr} (h : i ≠ .waitrdy) : entry i = id := if_neg h

/-- One answer of `exec i s`. -/
inductive ExecStep (i : Instr) (s : State) : State → Prop
  /-- a command waits while another operation runs -/
  | hold (hbusy : s.busy = true) : ExecStep i s s
  /-- an operand out of range -/
  | refuse (hidle : s.busy = false) (hw : i.wellFormed = false) : ExecStep i s (refuseCommand s)
  /-- an operation with phases is accepted -/
  | accept (hidle : s.busy = false) (hw : i.wellFormed = true) (hlatch : isLatched i = true) :
      ExecStep i s (entry i (latchCommand i s))
  /-- the frame step of a primitive operation -/
  | frame (act : State → State) (hact : frameAct i = some act) (hrun : Running i s) : ExecStep i s (complete (act s))
  /-- a ready sample of WAITRDY -/
  | sample (hi : i = .waitrdy) (hrun : Running i s) : ExecStep i s (pollStep cfg complete complete s)
  /-- a phase of a composite operation -/
  | phase (q : Acq) (t : State) (hq : compositeOf i = some q) (hrun : Running i s) (hstep : AcqStep q s t) :
      ExecStep i s t
  /-- SETRATE whole -/
  | setrate (r : BitVec 8) (hi : i = .setrate r) (hidle : s.busy = false) : ExecStep i s (emitDone (setrateEffect r s))
  /-- RESET whole -/
  | reset (hi : i = .reset) (hidle : s.busy = false) : ExecStep i s (emitDone (resetEffect s))
  /-- a read frame alone -/
  | read (a : RegAddr) (hi : i = .frameRd a) : ExecStep i s (memRead cfg a s)
  /-- a write frame alone -/
  | write (a : RegAddr) (v : Payload) (hi : i = .frameWr a v) : ExecStep i s (memWrite cfg a v s)

/-- A micro-step toward an operation with phases holds, refuses, accepts, or runs its phase. -/
theorem runOperation_execStep {i : Instr} {phase : State → StepOutcome} {s t : State} (hlatch : isLatched i = true)
    (hphase : Running i s → phase s = .next t → ExecStep i s t)
    (h : runOperation i (entry i) phase s = .next t) : ExecStep i s t := by
  rcases runOperation_cases i (entry i) phase s with
    ⟨hb, hw, ho, heq⟩ | ⟨hb, -, heq⟩ | ⟨hb, hw, heq⟩ | ⟨hb, hw, heq⟩ <;> rw [heq] at h
  · exact hphase ⟨hw, hb, ho⟩ h
  · cases h
    exact .hold hb
  · cases h
    exact .accept hb hw hlatch
  · cases h
    exact .refuse hb hw

theorem runImmediate_execStep {i : Instr} {effect : State → State} {s t : State}
    (heffect : s.busy = false → ExecStep i s (emitDone (effect s)))
    (h : runImmediate i effect s = .next t) : ExecStep i s t := by
  rcases runImmediate_cases i effect s with ⟨hb, heq⟩ | ⟨hb, -, heq⟩ | ⟨hb, hw, heq⟩ <;> rw [heq] at h <;> cases h
  · exact .hold hb
  · exact heffect hb
  · exact .refuse hb hw

/-- Whatever `exec` answers is one of the answers above. -/
theorem exec_execStep {i : Instr} {s t : State} (h : exec i s = .next t) : ExecStep i s t := by
  cases hlatch : isLatched i with
  | true =>
    rcases latched_cases hlatch with ⟨act, hact⟩ | rfl | ⟨q, hq⟩
    · have hentry : entry i = id := entry_of_ne (by rintro rfl; cases hact)
      rw [exec_frameAct hact, ← hentry] at h
      refine runOperation_execStep hlatch (fun hrun hphase => ?_) h
      rcases onePhase_cases act s with ⟨-, heq⟩ | ⟨-, heq⟩ <;> rw [heq] at hphase <;> cases hphase
      exact .frame act hact hrun
    · rw [exec_waitrdy, ← entry_waitrdy] at h
      refine runOperation_execStep hlatch (fun hrun hphase => ?_) h
      rw [waitrdyPhase] at hphase
      split at hphase <;> cases hphase
      exact .sample rfl hrun
    · have hentry : entry i = id := entry_of_ne (by rintro rfl; cases hq)
      rw [exec_composite hq, ← hentry] at h
      exact runOperation_execStep hlatch (fun hrun hphase => .phase q t hq hrun (acqPhase_acqStep hphase)) h
  | false =>
    rcases unlatched_cases hlatch with ⟨r, rfl⟩ | rfl | ⟨a, rfl⟩ | ⟨a, v, rfl⟩
    · rw [exec_setrate] at h
      exact runImmediate_execStep (fun hidle => .setrate r rfl hidle) h
    · rw [exec_reset] at h
      exact runImmediate_execStep (fun hidle => .reset rfl hidle) h
    · rw [exec_frameRd] at h
      cases h
      exact .read a rfl
    · rw [exec_frameWr] at h
      cases h
      exact .write a v rfl

end Sys2Proof.Sequencer
end

section
/-! The step and the operation it runs (`10_state.md` R43): acceptance, the operation in progress, the single steps of START,
STOP and SETRATE. -/

namespace Sys2Proof.Sequencer
open Sys2Proof Sys2Proof.Machine Sys2Proof.Config Sys2Proof.Safety Sys2Proof.Statements

section Running
variable {i : Instr} {s : State}

theorem latch_statement : ∀ i, Laws.Latch.Statement i
  | .rdreg a => Laws.Latch.rdreg a
  | .wrreg a v => Laws.Latch.wrreg a v
  | .selch sel => Laws.Latch.selch sel
  | .start r => Laws.Latch.start r
  | .stop => Laws.Latch.stop
  | .waitrdy => Laws.Latch.waitrdy
  | .rdvolt => Laws.Latch.rdvolt
  | .acq1 sel => Laws.Latch.acq1 sel
  | .acqavg sel n => Laws.Latch.acqavg sel n
  | .rdall => Laws.Latch.rdall
  | .rdallavg n => Laws.Latch.rdallavg n
  | .setmode m => Laws.Latch.setmode m
  | .setrate r => Laws.Latch.setrate r
  | .chkcom => Laws.Latch.chkcom
  | .reset => Laws.Latch.reset
  | .frameRd a => Laws.Latch.frameRd a
  | .frameWr a v => Laws.Latch.frameWr a v

theorem latchedInstr_of_running (hlatch : isLatched i = true) (hrun : Running i s) : latchedInstr s.op = some i := by
  obtain ⟨hw, -, hop⟩ := hrun
  rw [hop]
  exact latch_statement i hlatch hw

theorem step_of_running (hlatch : isLatched i = true) (hrun : Running i s) : step s = exec i s := by
  have hread := latchedInstr_of_running hlatch hrun
  obtain ⟨-, hbusy, -⟩ := hrun
  rcases step_busy s hbusy with ⟨j, hj, hstep⟩ | ⟨hnone, -⟩
  · cases hread.symm.trans hj
    exact hstep
  · cases hread.symm.trans hnone

theorem runOperation_of_running (accepted : State → State) (phase : State → StepOutcome) (hrun : Running i s) :
    runOperation i accepted phase s = phase s := by
  obtain ⟨hw, hbusy, hop⟩ := hrun
  simp [runOperation, hw, hbusy, hop]

theorem runOperation_of_idle (accepted : State → State) (phase : State → StepOutcome) (hw : i.wellFormed = true)
    (hidle : s.busy = false) : runOperation i accepted phase s = .next (accepted (latchCommand i s)) := by
  simp [runOperation, hw, hidle]

/-- A primitive operation with one frame completes in its frame step. -/
theorem exec_of_frameAct {act : State → State} (hact : frameAct i = some act) (hrun : Running i s) (hph : s.ph = 0) :
    exec i s = .next (complete (act s)) := by
  rw [exec_frameAct hact, runOperation_of_running id _ hrun, onePhase, if_pos hph]

/-- Acceptance latches the operation and enters its first phase. -/
theorem exec_of_idle (hlatch : isLatched i = true) (hw : i.wellFormed = true) (hidle : s.busy = false) :
    exec i s = .next (entry i (latchCommand i s)) := by
  rcases latched_cases hlatch with ⟨act, hact⟩ | rfl | ⟨q, hq⟩
  · rw [exec_frameAct hact, runOperation_of_idle id _ hw hidle, entry_of_ne (by rintro rfl; cases hact)]
  · rw [exec_waitrdy, runOperation_of_idle enterWait _ hw hidle, entry_waitrdy]
  · rw [exec_composite hq, runOperation_of_idle id _ hw hidle, entry_of_ne (by rintro rfl; cases hq)]

end Running

/-! ### The model's operations in the words of the statements -/

theorem complete_eq_ended (s : State) : complete s = ended s := rfl

theorem memWrite_eq_afterWrite (a : RegAddr) (v : Payload) (s : State) : memWrite cfg a v s = afterWrite a v s := by
  rw [memWrite_eq]
  cases hok : s.env.nextWrite <;>
    simp [afterWrite, Status.noteFrame, writeSlots, writeBytes, writeEvents, failedEvents, hok]

/-- The rate code fills the four low bits that `CMD_START` leaves zero (`00_scope.md` R8 P7). -/
theorem startWord_eq (c : Cfg) (r : BitVec 4) : startWord c r = c.cmdStartHi ++ r := by
  have hrate : r.setWidth 24 = 0#20 ++ r := BitVec.setWidth_eq_append (by decide)
  rw [startWord, cmdStart, hrate, BitVec.or_append, BitVec.or_zero, BitVec.zero_or]

theorem takeCommand_of_presented {x : Ctx} {w : CommandWord} {s u : State} (h : Presented x w s u) :
    takeCommand s = some (w, u) := by
  cases x with
  | main =>
    obtain ⟨ws, hmain, ⟨htimer, rfl⟩ | ⟨htimer, hpick, rfl⟩⟩ := h
    · simp [takeCommand, takeMain, hmain, htimer]
    · obtain ⟨w', ws', htimer⟩ := List.exists_cons_of_ne_nil htimer
      simp [takeCommand, takeMain, hmain, htimer, hpick]
  | timer =>
    obtain ⟨ws, htimer, ⟨hmain, rfl⟩ | ⟨hmain, hpick, rfl⟩⟩ := h
    · simp [takeCommand, takeTimer, hmain, htimer]
    · obtain ⟨w', ws', hmain⟩ := List.exists_cons_of_ne_nil hmain
      simp [takeCommand, takeTimer, hmain, htimer, hpick]

/-! ### The host's side of the state -/

/-- The command port, the receiver of the response and the frame request. -/
def SameHostSide (s t : State) : Prop := t.port = s.port ∧ t.owner = s.owner ∧ t.xfer = s.xfer

theorem sameHostSide_frameAct {i : Instr} {act : State → State} (h : frameAct i = some act) (s : State) :
    SameHostSide s (act s) := by
  cases i <;> cases h <;> simp [SameHostSide, setmodePhase, chkcomPhase]

theorem sameHostSide_endOfChannel (q : Acq) (s : State) : SameHostSide s (endOfChannel q s) := by
  rcases endOfChannel_cases q s with ⟨-, heq⟩ | ⟨-, -, heq⟩ | ⟨-, -, heq⟩ <;> simp [SameHostSide, heq]

theorem sameHostSide_endOfSample (q : Acq) (s : State) : SameHostSide s (endOfSample q s) := by
  rcases endOfSample_cases q s with ⟨-, heq⟩ | ⟨-, heq⟩ <;> rw [heq]
  · simp [SameHostSide]
  · exact sameHostSide_endOfChannel q s

theorem sameHostSide_clearAverage (q : Acq) (s : State) : SameHostSide s (clearAverage q s) := by
  rcases clearAverage_cases q s with ⟨-, heq⟩ | ⟨-, heq⟩ <;> simp [SameHostSide, heq]

theorem sameHostSide_acqStep {q : Acq} {s t : State} (h : AcqStep q s t) : SameHostSide s t := by
  cases h with
  | select => exact sameHostSide_clearAverage q (selectPhase cfg (acqSelector q s) s)
  | start => simp [SameHostSide]
  | stay => simp [SameHostSide]
  | ready => simp [SameHostSide]
  | timeout => simp [SameHostSide]
  | stop => simp [SameHostSide]
  | read => exact sameHostSide_endOfSample q (readVoltPhase cfg s)
  | giveUp => exact sameHostSide_endOfSample q (takeSentinel (stopPhase cfg s))
  | finish => exact sameHostSide_endOfChannel q (takeAverage q s)

/-- No micro-step of an operation touches the host's side: only `step` takes a word from the port. -/
theorem sameHostSide_exec {i : Instr} {s t : State} (h : exec i s = .next t) : SameHostSide s t := by
  cases exec_execStep h with
  | accept =>
    rw [entry]
    split <;> simp [SameHostSide]
  | frame act hact => exact sameHostSide_frameAct hact s
  | sample =>
    rcases pollStep_outcomes cfg complete complete s with ⟨-, heq⟩ | heq | ⟨-, heq⟩ <;> simp [SameHostSide, heq]
  | phase q _ _ _ hstep => exact sameHostSide_acqStep hstep
  | hold => simp [SameHostSide]
  | refuse => simp [SameHostSide]
  | setrate => simp [SameHostSide]
  | reset => simp [SameHostSide]
  | read => simp [SameHostSide]
  | write => simp [SameHostSide]

/-! ### The statements -/

/-- Settles O7: what `takeCommand` finds is the word presented. -/
theorem stepRunsDecodedCommand : Obligations.StepRunsDecodedCommand := by
  intro x w i s u hidle hxfer hpresented hdecode
  simp [step, hidle, hxfer, takeCommand_of_presented hpresented, hdecode]

/-- Settles O8: `OP` is read back as the operation that acceptance latched, and `exec` leaves the host's side alone. -/
theorem stepRunsLatchedOperation : Obligations.StepRunsLatchedOperation := by
  intro s i hlatch hrun
  have hstep : step s = exec i s := step_of_running hlatch hrun
  refine ⟨hstep, fun t ht => ?_⟩
  obtain ⟨hport, howner, -⟩ := sameHostSide_exec (hstep.symm.trans ht)
  exact ⟨hport, howner⟩

/-- Settles O11: only WAITRDY's entry clears the wait's counters. -/
theorem acceptanceLatches : Obligations.AcceptanceLatches := by
  intro i s hlatch hw hidle
  rw [exec_of_idle hlatch hw hidle]
  by_cases hwait : i = .waitrdy
  · subst hwait
    rfl
  · rw [entry_of_ne hwait, if_neg hwait, if_neg hwait]
    rfl

/-- Settles O19: the frame step of START is the write of `CMD_START` with the operand's rate, and then `CONV <- 1`. -/
theorem startWrites : Obligations.StartWrites := by
  intro r s hrun hph
  rw [exec_of_frameAct rfl hrun hph, complete_eq_ended, startPhase, memWrite_eq_afterWrite, startWord_eq, rateCode]

/-- Settles O20: the frame step of STOP is the write of `CMD_STOP`, and then `CONV <- 0`. -/
theorem stopWrites : Obligations.StopWrites := by
  intro s hrun hph
  rw [exec_of_frameAct rfl hrun hph, complete_eq_ended, stopPhase, memWrite_eq_afterWrite]

/-- Settles O36: SETRATE is whole in its acceptance; a rate below 16 is its own code. -/
theorem setrateSets : Obligations.SetrateSets := by
  intro r s hr hidle
  have hw : (Instr.setrate r).wellFormed = true := decide_eq_true hr
  have hcode : (rateCode r).toNat = r.toNat := by
    simp only [rateCode, BitVec.extractLsb'_toNat, Nat.shiftRight_zero]
    omega
  refine ⟨emitDone (setrateEffect r s), ?_, hcode, rfl, rfl, rfl⟩
  simp [exec_setrate, runImmediate, hidle, hw]

end Sys2Proof.Sequencer
end

section
/-! The run invariant (`Safety.RunInv`): it holds at reset and every step keeps it. An idle block stands at rest; a composite
operation keeps the shared part of its invariant through its whole cycle, and each row of the phase table adds its own
clause (`42_acquisition.md` R191). -/

namespace Sys2Proof.Sequencer
open Sys2Proof Sys2Proof.Machine Sys2Proof.Config Sys2Proof.Safety Sys2Proof.Statements

/-! ### `ST` -/

/-- `ST` while an operation runs: no cause that an acceptance or a check sets alone, and a timeout only under a bound. -/
def OpenStatus (st : Status) : Prop :=
  st.badop = false ∧ st.unsupported = false ∧ st.idmismatch = false ∧ (st.timeout = true → tReady cfg ≠ none)

theorem OpenStatus.legal {st : Status} (h : OpenStatus st) : StatusLegal st := by
  obtain ⟨hbadop, hunsupported, hidmismatch, htimeout⟩ := h
  simpa [StatusLegal, hbadop, hunsupported, hidmismatch] using htimeout

theorem openStatus_clear : OpenStatus Status.clear := by simp [OpenStatus, Status.clear]

theorem OpenStatus.noteFrame {st : Status} (h : OpenStatus st) (ok : Bool) : OpenStatus (st.noteFrame ok) := h

theorem OpenStatus.noteTimeout {st : Status} (h : OpenStatus st) (hbound : tReady cfg ≠ none) :
    OpenStatus st.noteTimeout := by
  obtain ⟨hbadop, hunsupported, hidmismatch, -⟩ := h
  exact ⟨hbadop, hunsupported, hidmismatch, fun _ => hbound⟩

theorem statusLegal_refused : StatusLegal Status.refused := by simp [StatusLegal, Status.refused, Status.clear]

theorem statusLegal_unsupportedOnly : StatusLegal Status.unsupportedOnly := by
  simp [StatusLegal, Status.unsupportedOnly, Status.clear]

/-- The identity check flags only after a frame that succeeded (`43_config_system.md` R209). -/
theorem statusLegal_chkcomPhase {s : State} (hst : s.st = Status.clear) : StatusLegal (chkcomPhase cfg s).st := by
  cases hok : answered s.env.nextRead <;>
    simp [chkcomPhase, hst, hok, StatusLegal, Status.noteIdentity, Status.clear]

theorem statusLegal_frameAct {i : Instr} {act : State → State} (h : frameAct i = some act) {s : State}
    (hst : s.st = Status.clear) : StatusLegal (act s).st := by
  have hframe : ∀ ok, StatusLegal (s.st.noteFrame ok) := fun ok => hst ▸ (openStatus_clear.noteFrame ok).legal
  cases i <;> cases h
  case chkcom => exact statusLegal_chkcomPhase hst
  all_goals exact hframe _

theorem frameAct_cs {i : Instr} {act : State → State} (h : frameAct i = some act) (s : State) : (act s).cs = false := by
  cases i <;> cases h <;> rfl

/-! ### The block at rest -/

/-- An idle block between two steps, whatever its `ST`. -/
structure Resting (s : State) : Prop where
  released : s.cs = false
  noFrameAsked : s.xfer = none
  idle : s.busy = false
  phase : s.ph = 0
  channel : s.k = 0
  samples : s.samples = 0#16

theorem Resting.runInv {s : State} (h : Resting s) (hst : StatusLegal s.st) : RunInv s where
  released := h.released
  noFrameAsked := h.noFrameAsked
  status := hst
  idle _ := ⟨h.phase, h.channel, h.samples⟩
  running hbusy := nomatch h.idle.symm.trans hbusy

theorem resting_of_runInv {s : State} (hinv : RunInv s) (hidle : s.busy = false) : Resting s := by
  obtain ⟨hph, hk, hsamples⟩ := hinv.idle hidle
  exact ⟨hinv.released, hinv.noFrameAsked, hidle, hph, hk, hsamples⟩

theorem Resting.refuseCommand {s : State} (h : Resting s) : Resting (refuseCommand s) := ⟨h.1, h.2, h.3, h.4, h.5, h.6⟩

theorem Resting.emitDone {s : State} (h : Resting s) : Resting (emitDone s) := ⟨h.1, h.2, h.3, h.4, h.5, h.6⟩

/-- The word leaves the port; the block stays at rest and `ST` as it was. -/
theorem Resting.takeCommand {s u : State} {w : CommandWord} (h : Resting s) (htake : takeCommand s = some (w, u)) :
    Resting u ∧ u.st = s.st := by
  obtain ⟨hcs, hxfer, hidle, hph, hk, hsamples⟩ := h
  rcases takeCommand_cases s with
    ⟨-, -, heq⟩ | ⟨_, _, -, -, heq⟩ | ⟨_, _, -, -, heq⟩ | ⟨_, _, _, _, -, -, ⟨-, heq⟩ | ⟨-, heq⟩⟩ <;>
    cases heq.symm.trans htake <;> exact ⟨⟨hcs, hxfer, hidle, hph, hk, hsamples⟩, rfl⟩

/-- The step that ends an operation puts the block at rest. -/
theorem runInv_complete {s : State} (hcs : s.cs = false) (hxfer : s.xfer = none) (hst : StatusLegal s.st) :
    RunInv (complete s) :=
  Resting.runInv ⟨hcs, hxfer, rfl, rfl, rfl, rfl⟩ hst

/-! ### The block at work -/

section Kinds
variable {i : Instr} {q : Acq} {act : State → State}

theorem phaseLegal_frameAct (h : frameAct i = some act) (s : State) : PhaseLegal i s ↔ PrimitivePhase s := by
  cases i <;> cases h <;> rfl

theorem phaseLegal_composite (h : compositeOf i = some q) (s : State) : PhaseLegal i s ↔ CompositePhase q s := by
  cases i <;> cases h <;> rfl

theorem runInv_running {s : State} (hlatch : isLatched i = true) (hrun : Running i s) (hcs : s.cs = false)
    (hxfer : s.xfer = none) (hst : StatusLegal s.st) (hph : PhaseLegal i s) : RunInv s where
  released := hcs
  noFrameAsked := hxfer
  status := hst
  idle hidle := by
    obtain ⟨-, hbusy, -⟩ := hrun
    cases hbusy.symm.trans hidle
  running _ := ⟨i, latchedInstr_of_running hlatch hrun, hph⟩

/-- No sample has been taken yet, and a bound is at least one. -/
theorem waitOpen_of_zero {s : State} (hp : s.p = 0) : WaitOpen s := by
  intro t ht
  obtain ⟨b, -, rfl⟩ := Option.map_eq_some_iff.1 ht
  omega

/-- A sample that does not reach the bound leaves the wait open. -/
theorem waitOpen_pollSample {s : State} (h : WaitOpen s) (hopen : tReady cfg ≠ some (s.p + 1)) :
    WaitOpen (pollSample s) := by
  intro t ht
  have hlt : s.p < t := h t ht
  have hne : s.p + 1 ≠ t := fun heq => hopen (heq ▸ ht)
  rw [pollSample_p]
  omega

theorem primitivePhase_latchCommand (s : State) : PrimitivePhase (latchCommand i s) := ⟨rfl, rfl, rfl, rfl⟩

theorem compositePhase_latchCommand (s : State) : CompositePhase q (latchCommand i s) :=
  ⟨fun _ => rfl, rfl, rfl, rfl, rfl, fun h => absurd rfl h⟩

/-- Acceptance puts the block at the first phase of the operation. -/
theorem Resting.accept {s : State} (h : Resting s) (hlatch : isLatched i = true) (hw : i.wellFormed = true) :
    RunInv (entry i (latchCommand i s)) := by
  have hclear : StatusLegal Status.clear := openStatus_clear.legal
  rcases latched_cases hlatch with ⟨act, hact⟩ | rfl | ⟨q, hq⟩
  · rw [entry_of_ne (by rintro rfl; cases hact)]
    exact runInv_running hlatch ⟨hw, rfl, rfl⟩ h.released h.noFrameAsked hclear
      ((phaseLegal_frameAct hact _).2 (primitivePhase_latchCommand s))
  · exact runInv_running hlatch ⟨hw, rfl, rfl⟩ h.released h.noFrameAsked hclear
      ⟨primitivePhase_latchCommand (i := .waitrdy) s, waitOpen_of_zero rfl⟩
  · rw [entry_of_ne (by rintro rfl; cases hq)]
    exact runInv_running hlatch ⟨hw, rfl, rfl⟩ h.released h.noFrameAsked hclear
      ((phaseLegal_composite hq _).2 (compositePhase_latchCommand s))

/-- The frame step of a primitive operation. -/
theorem runInv_frameAct {s : State} (hact : frameAct i = some act) (hinv : RunInv s) (hph : PrimitivePhase s) :
    RunInv (complete (act s)) := by
  obtain ⟨-, -, -, hst⟩ := hph
  obtain ⟨-, -, hxfer⟩ := sameHostSide_frameAct hact s
  exact runInv_complete (frameAct_cs hact s) (hxfer.trans hinv.noFrameAsked) (statusLegal_frameAct hact hst)

/-- A ready sample of WAITRDY. -/
theorem runInv_waitrdy {s : State} (hrun : Running .waitrdy s) (hinv : RunInv s) (hph : PrimitivePhase s)
    (hwait : WaitOpen s) : RunInv (pollStep cfg complete complete s) := by
  have hst : OpenStatus s.st := by
    obtain ⟨-, -, -, hst⟩ := hph
    exact hst ▸ openStatus_clear
  rcases pollStep_outcomes cfg complete complete s with ⟨hopen, heq⟩ | heq | ⟨hbound, heq⟩ <;> rw [heq]
  · exact runInv_running rfl hrun hinv.released hinv.noFrameAsked hst.legal ⟨hph, waitOpen_pollSample hwait hopen⟩
  · exact runInv_complete hinv.released hinv.noFrameAsked hst.legal
  · exact runInv_complete hinv.released hinv.noFrameAsked (hst.noteTimeout (by simp [hbound])).legal

end Kinds

/-! ### The cycle of a composite operation -/

/-- What a composite operation keeps through its cycle, at every phase. -/
structure InCycle (i : Instr) (q : Acq) (s : State) : Prop where
  running : Running i s
  released : s.cs = false
  noFrameAsked : s.xfer = none
  status : OpenStatus s.st
  channel : q.batch = false → s.k = 0

section Cycle
variable {i : Instr} {q : Acq} {s t : State}

theorem inCycle_of_runInv (hrun : Running i s) (hinv : RunInv s) (hph : CompositePhase q s) : InCycle i q s := by
  obtain ⟨hk, hbadop, hunsupported, hidmismatch, -⟩ := hph
  obtain ⟨-, -, -, htimeout⟩ := hinv.status
  exact ⟨hrun, hinv.released, hinv.noFrameAsked, ⟨hbadop, hunsupported, hidmismatch, htimeout⟩, hk⟩

theorem InCycle.runInv (h : InCycle i q s) (hq : compositeOf i = some q) (hph : CompositePhase q s) : RunInv s :=
  runInv_running (isLatched_of_composite hq) h.running h.released h.noFrameAsked h.status.legal
    ((phaseLegal_composite hq s).2 hph)

/-- An update that keeps the operation latched, the channel and the host's side, and releases chip-select. -/
theorem InCycle.update (h : InCycle i q s) (hst : OpenStatus t.st) (hbusy : t.busy = s.busy := by simp)
    (hop : t.op = s.op := by simp) (hcs : t.cs = false := by simp) (hxfer : t.xfer = s.xfer := by simp)
    (hk : t.k = s.k := by simp) : InCycle i q t := by
  obtain ⟨⟨hw, hbusy', hop'⟩, -, hxfer', -, hk'⟩ := h
  exact ⟨⟨hw, hbusy.trans hbusy', hop.trans hop'⟩, hcs, hxfer.trans hxfer', hst, fun hb => hk.trans (hk' hb)⟩

theorem InCycle.complete (h : InCycle i q s) : RunInv (complete s) :=
  runInv_complete h.released h.noFrameAsked h.status.legal

/-! The clause that each row of the phase table adds. -/

theorem InCycle.shared (h : InCycle i q s) {clause : Prop} :
    ((q.batch = false → s.k = 0) ∧ s.st.badop = false ∧ s.st.unsupported = false ∧ s.st.idmismatch = false ∧ clause) ↔
      clause := by
  obtain ⟨hbadop, hunsupported, hidmismatch, -⟩ := h.status
  exact ⟨fun ⟨_, _, _, _, hclause⟩ => hclause, fun hclause => ⟨h.channel, hbadop, hunsupported, hidmismatch, hclause⟩⟩

theorem InCycle.at_select (h : InCycle i q s) (hph : s.ph = 0) :
    CompositePhase q s ↔ s.samples = 0#16 ∧ (s.k ≠ 0 → s.conv = false) := by
  rw [CompositePhase, hph]
  exact h.shared

theorem InCycle.at_start (h : InCycle i q s) (hph : s.ph = 1) : CompositePhase q s ↔ CycleOpen q s := by
  rw [CompositePhase, hph]
  exact h.shared

theorem InCycle.at_wait (h : InCycle i q s) (hph : s.ph = 2) :
    CompositePhase q s ↔ CycleOpen q s ∧ s.conv = true ∧ WaitOpen s := by
  rw [CompositePhase, hph]
  exact h.shared

theorem InCycle.at_stop (h : InCycle i q s) (hph : s.ph = 3) : CompositePhase q s ↔ CycleOpen q s ∧ s.conv = true := by
  rw [CompositePhase, hph]
  exact h.shared

theorem InCycle.at_read (h : InCycle i q s) (hph : s.ph = 4) : CompositePhase q s ↔ CycleOpen q s ∧ s.conv = false := by
  rw [CompositePhase, hph]
  exact h.shared

theorem InCycle.at_giveUp (h : InCycle i q s) (hph : s.ph = 5) :
    CompositePhase q s ↔ CycleOpen q s ∧ s.conv = true ∧ s.st.timeout = true := by
  rw [CompositePhase, hph]
  exact h.shared

theorem InCycle.at_finish (h : InCycle i q s) (hph : s.ph = 6) :
    CompositePhase q s ↔ q.averaged = true ∧ s.samples = q.n ∧ s.conv = false := by
  rw [CompositePhase, hph]
  exact h.shared

/-! The updates of a cycle. -/

theorem toNat_succ_of_lt {x n : BitVec 16} (h : x.toNat < n.toNat) : (x + 1#16).toNat = x.toNat + 1 := by
  have hn : n.toNat < 2 ^ 16 := n.isLt
  rw [BitVec.toNat_add, BitVec.toNat_ofNat]
  omega

/-- The select phase opens a cycle: no sample is taken yet, and an averaged operation takes at least one. -/
theorem InCycle.clearAverage (hq : compositeOf i = some q) (h : InCycle i q s) (hsamples : s.samples = 0#16) :
    InCycle i q (clearAverage q s) ∧ CycleOpen q (clearAverage q s) := by
  rcases clearAverage_cases q s with ⟨havg, heq⟩ | ⟨havg, heq⟩ <;> rw [heq]
  · obtain ⟨hw, -, -⟩ := h.running
    have hpos : 0 < q.n.toNat := count_pos hq hw havg
    exact ⟨h.update (by simpa using h.status) (hcs := by simpa using h.released), by simpa [CycleOpen, havg] using hpos⟩
  · exact ⟨h, by simpa [CycleOpen, havg] using hsamples⟩

/-- `EndOfChannel` with the conversion stopped: the next channel's select phase, or the end of the operation. -/
theorem InCycle.endOfChannel (hq : compositeOf i = some q) (h : InCycle i q s) (hconv : s.conv = false) :
    RunInv (endOfChannel q s) := by
  rcases endOfChannel_cases q s with ⟨-, heq⟩ | ⟨hb, -, heq⟩ | ⟨-, -, heq⟩ <;> rw [heq]
  · exact h.complete
  · have hnext : InCycle i q (nextChannel (storeChannel s)) :=
      { running := h.running, released := h.released, noFrameAsked := h.noFrameAsked, status := h.status
        channel := fun hb' => nomatch hb.symm.trans hb' }
    exact hnext.runInv hq ((hnext.at_select rfl).2 ⟨rfl, fun _ => hconv⟩)
  · exact runInv_complete h.released h.noFrameAsked h.status.legal

/-- The next sample of an averaged operation, or its finish phase: `S` stays at most `n` (`10_state.md` R40). -/
theorem InCycle.nextSample (hq : compositeOf i = some q) (h : InCycle i q s) (havg : q.averaged = true)
    (hopen : CycleOpen q s) (hconv : s.conv = false) : RunInv (nextSample q (accumulate q s)) := by
  have hnext : InCycle i q (Machine.nextSample q (accumulate q s)) :=
    h.update (by simpa using h.status) (hcs := by simpa using h.released)
  have hlt : s.samples.toNat < q.n.toNat := by simpa [CycleOpen, havg] using hopen
  have hsucc : (s.samples + 1#16).toNat = s.samples.toNat + 1 := toNat_succ_of_lt hlt
  by_cases hmore : s.samples + 1#16 < q.n
  · have hph : (Machine.nextSample q (accumulate q s)).ph = 1 := by simp [hmore]
    exact hnext.runInv hq ((hnext.at_start hph).2 (by simpa [CycleOpen, havg] using BitVec.lt_def.1 hmore))
  · have hph : (Machine.nextSample q (accumulate q s)).ph = 6 := by simp [hmore]
    have hfull : s.samples + 1#16 = q.n := by
      rw [BitVec.lt_def] at hmore
      exact BitVec.eq_of_toNat_eq (by omega)
    exact hnext.runInv hq ((hnext.at_finish hph).2 ⟨havg, by simpa using hfull, by simpa using hconv⟩)

theorem InCycle.endOfSample (hq : compositeOf i = some q) (h : InCycle i q s) (hopen : CycleOpen q s)
    (hconv : s.conv = false) : RunInv (endOfSample q s) := by
  rcases endOfSample_cases q s with ⟨havg, heq⟩ | ⟨-, heq⟩ <;> rw [heq]
  · exact h.nextSample hq havg hopen hconv
  · exact h.endOfChannel hq hconv

/-- Every row of the phase table keeps the invariant. -/
theorem runInv_acqStep (hq : compositeOf i = some q) (h : InCycle i q s) (hphase : CompositePhase q s)
    (hstep : AcqStep q s t) : RunInv t := by
  have hst := h.status
  cases hstep with
  | select hph =>
    obtain ⟨hsamples, -⟩ := (h.at_select hph).1 hphase
    have hselect : InCycle i q (selectPhase cfg (acqSelector q s) s) := h.update (hst.noteFrame _)
    obtain ⟨hclear, hopen⟩ := hselect.clearAverage hq hsamples
    have ht := hclear.update (t := goto 1 _) hclear.status (hcs := hclear.released)
    exact ht.runInv hq ((ht.at_start rfl).2 hopen)
  | start hph =>
    have hopen := (h.at_start hph).1 hphase
    have ht : InCycle i q (goto 2 (enterWait (startPhase cfg s.rate s))) := h.update (hst.noteFrame _)
    exact ht.runInv hq ((ht.at_wait rfl).2 ⟨hopen, rfl, waitOpen_of_zero rfl⟩)
  | stay hph hbelow =>
    obtain ⟨hopen, hconv, hwait⟩ := (h.at_wait hph).1 hphase
    have ht : InCycle i q (pollSample s) := h.update hst (hcs := h.released)
    exact ht.runInv hq ((ht.at_wait hph).2 ⟨hopen, hconv, waitOpen_pollSample hwait hbelow⟩)
  | ready hph =>
    obtain ⟨hopen, hconv, -⟩ := (h.at_wait hph).1 hphase
    have ht : InCycle i q (goto 3 (pollSample s)) := h.update hst (hcs := h.released)
    exact ht.runInv hq ((ht.at_stop rfl).2 ⟨hopen, hconv⟩)
  | timeout hph hbound =>
    obtain ⟨hopen, hconv, -⟩ := (h.at_wait hph).1 hphase
    have ht : InCycle i q (goto 5 (flagTimeout (pollSample s))) :=
      h.update (hst.noteTimeout (by simp [hbound])) (hcs := h.released)
    exact ht.runInv hq ((ht.at_giveUp rfl).2 ⟨hopen, hconv, rfl⟩)
  | stop hph =>
    obtain ⟨hopen, -⟩ := (h.at_stop hph).1 hphase
    have ht : InCycle i q (goto 4 (stopPhase cfg s)) := h.update (hst.noteFrame _)
    exact ht.runInv hq ((ht.at_read rfl).2 ⟨hopen, rfl⟩)
  | read hph =>
    obtain ⟨hopen, hconv⟩ := (h.at_read hph).1 hphase
    have ht : InCycle i q (readVoltPhase cfg s) := h.update (hst.noteFrame _)
    exact ht.endOfSample hq hopen hconv
  | giveUp hph =>
    obtain ⟨hopen, -⟩ := (h.at_giveUp hph).1 hphase
    have ht : InCycle i q (takeSentinel (stopPhase cfg s)) := h.update (hst.noteFrame _)
    exact ht.endOfSample hq hopen rfl
  | finish hph =>
    obtain ⟨-, -, hconv⟩ := (h.at_finish hph).1 hphase
    have ht : InCycle i q (takeAverage q s) := h.update hst (hcs := h.released)
    exact ht.endOfChannel hq hconv

end Cycle

/-! ### The whole step -/

theorem operationOf_of_decode {w : CommandWord} {i : Instr} (h : decode w = .ok i) : operationOf w = .ok i := by
  unfold decode at h
  split at h
  · cases h
  · split at h
    · cases h
    · split at h
      · cases h
      · exact h

/-- A command word never decodes to a frame (`30_encoding.md` R90). -/
theorem not_frame_of_decode {w : CommandWord} {i : Instr} (h : decode w = .ok i) :
    (∀ a, i ≠ .frameRd a) ∧ ∀ a v, i ≠ .frameWr a v := by
  have hop := operationOf_of_decode h
  unfold operationOf at hop
  split at hop <;> cases hop <;> exact ⟨nofun, nofun⟩

/-- A command met by a block at rest: accepted, refused, or performed whole. -/
theorem runInv_exec_of_resting {i : Instr} {s t : State} (h : Resting s) (hst : StatusLegal s.st)
    (hread : ∀ a, i ≠ .frameRd a) (hwrite : ∀ a v, i ≠ .frameWr a v) (hexec : exec i s = .next t) : RunInv t := by
  have hnot_running : ¬ Running i s := fun ⟨_, hbusy, _⟩ => nomatch h.idle.symm.trans hbusy
  cases exec_execStep hexec with
  | hold => exact h.runInv hst
  | refuse => exact h.refuseCommand.runInv statusLegal_refused
  | accept _ hw hlatch => exact h.accept hlatch hw
  | frame _ _ hrun => exact absurd hrun hnot_running
  | sample _ hrun => exact absurd hrun hnot_running
  | phase _ _ _ hrun => exact absurd hrun hnot_running
  | setrate r =>
    have heffect : Resting (setrateEffect r s) := ⟨h.1, h.2, h.3, h.4, h.5, h.6⟩
    exact heffect.emitDone.runInv openStatus_clear.legal
  | reset =>
    have heffect : Resting (resetEffect s) := ⟨h.1, h.2, h.3, h.4, h.5, h.6⟩
    exact heffect.emitDone.runInv statusLegal_unsupportedOnly
  | read a hi => exact absurd hi (hread a)
  | write a v hi => exact absurd hi (hwrite a v)

/-- The next phase of the operation in progress. -/
theorem runInv_exec_of_running {i : Instr} {s t : State} (hinv : RunInv s) (hrun : Running i s) (hph : PhaseLegal i s)
    (hexec : exec i s = .next t) : RunInv t := by
  have hbusy : s.busy ≠ false := by
    obtain ⟨-, hbusy, -⟩ := hrun
    simp [hbusy]
  cases exec_execStep hexec with
  | hold => exact hinv
  | refuse hidle => exact absurd hidle hbusy
  | accept hidle => exact absurd hidle hbusy
  | frame act hact => exact runInv_frameAct hact hinv ((phaseLegal_frameAct hact s).1 hph)
  | sample hi =>
    subst hi
    obtain ⟨hprimitive, hwait⟩ := hph
    exact runInv_waitrdy hrun hinv hprimitive hwait
  | phase q _ hq _ hstep =>
    have hcomposite := (phaseLegal_composite hq s).1 hph
    exact runInv_acqStep hq (inCycle_of_runInv hrun hinv hcomposite) hcomposite hstep
  | setrate _ _ hidle => exact absurd hidle hbusy
  | reset _ hidle => exact absurd hidle hbusy
  | read a hi =>
    subst hi
    exact hph.elim
  | write a v hi =>
    subst hi
    exact hph.elim

/-! ### The statements -/

/-- Settles O49: the block is at rest at reset, with `ST` clear. -/
theorem resetMeetsInv : Obligations.ResetMeetsInv := by
  have hrest : Resting State.reset := ⟨rfl, rfl, rfl, rfl, rfl, rfl⟩
  exact hrest.runInv openStatus_clear.legal

/-- Settles O50: a busy block runs a phase of the operation it latched; an idle one meets a command at rest, a refused word,
or nothing, and no frame is asked of it. -/
theorem stepKeepsInv : Obligations.StepKeepsInv := by
  intro s t hinv hstep
  cases hbusy : s.busy with
  | true =>
    obtain ⟨i, hlatched, hph⟩ := hinv.running hbusy
    obtain ⟨hw, hop⟩ := latchedInstr_spec s.op i hlatched
    rcases step_busy s hbusy with ⟨j, hj, heq⟩ | ⟨hnone, -⟩
    · cases hlatched.symm.trans hj
      exact runInv_exec_of_running hinv ⟨hw, hbusy, hop.symm⟩ hph (heq.symm.trans hstep)
    · cases hlatched.symm.trans hnone
  | false =>
    have hrest := resting_of_runInv hinv hbusy
    rcases step_idle s hbusy with ⟨_, _, hx, -⟩ | ⟨_, _, hx, -⟩ | ⟨-, -, heq⟩ | ⟨w, u, i, -, htake, hdecode, heq⟩ |
      ⟨w, u, e, -, htake, -, heq⟩
    · cases hinv.noFrameAsked.symm.trans hx
    · cases hinv.noFrameAsked.symm.trans hx
    · cases heq.symm.trans hstep
      exact hinv
    · obtain ⟨hrest', hst⟩ := hrest.takeCommand htake
      obtain ⟨hread, hwrite⟩ := not_frame_of_decode hdecode
      exact runInv_exec_of_resting hrest' (hst ▸ hinv.status) hread hwrite (heq.symm.trans hstep)
    · obtain ⟨hrest', -⟩ := hrest.takeCommand htake
      cases heq.symm.trans hstep
      exact hrest'.refuseCommand.runInv statusLegal_refused

end Sys2Proof.Sequencer
end

section
/-! The columns of `10_state.md` R50: what each shared operation writes, and that what an operation runs is made of shared
operations its column allows. -/

namespace Sys2Proof.Columns
open Sys2Proof Sys2Proof.Machine Sys2Proof.Config Sys2Proof.Statements Sys2Proof.Sequencer

theorem column_refl (i : Instr) (s : State) : WritesOnlyItsColumn i s s := by simp [WritesOnlyItsColumn]

theorem column_trans {i : Instr} {s t u : State} (hst : WritesOnlyItsColumn i s t) (htu : WritesOnlyItsColumn i t u) :
    WritesOnlyItsColumn i s u := by
  obtain ⟨hrdata, hxok, hv, hconv, hp, haccs, hacc, haok, hvb, hchkok, hrate, hmode⟩ := hst
  obtain ⟨hrdata', hxok', hv', hconv', hp', haccs', hacc', haok', hvb', hchkok', hrate', hmode'⟩ := htu
  refine ⟨fun h => (hrdata' h).trans (hrdata h), fun h => (hxok' h).trans (hxok h), fun h h' => ?_,
    fun h h' h'' => (hconv' h h' h'').trans (hconv h h' h''), fun h h' => ?_, fun h => (haccs' h).trans (haccs h),
    fun h => (hacc' h).trans (hacc h), fun h h' => (haok' h h').trans (haok h h'), fun h h' => ?_,
    fun h => (hchkok' h).trans (hchkok h), fun h => (hrate' h).trans (hrate h), fun h => ?_⟩
  · simp only [hv' h h', hv h h', and_self]
  · simp only [hp' h h', hp h h', and_self]
  · simp only [hvb' h h', hvb h h', and_self]
  · simp only [hmode' h, hmode h, and_self]

section Writes
variable {i : Instr} {q : Acq}

/-! ### Operations that write no register of R50 -/

theorem column_latchCommand (s : State) : WritesOnlyItsColumn i s (latchCommand i s) := by simp [WritesOnlyItsColumn]

theorem column_refuseCommand (s : State) : WritesOnlyItsColumn i s (refuseCommand s) := by simp [WritesOnlyItsColumn]

theorem column_complete (s : State) : WritesOnlyItsColumn i s (complete s) := by simp [WritesOnlyItsColumn]

theorem column_emitDone (s : State) : WritesOnlyItsColumn i s (emitDone s) := by simp [WritesOnlyItsColumn]

theorem column_resetEffect (s : State) : WritesOnlyItsColumn i s (resetEffect s) := by simp [WritesOnlyItsColumn]

theorem column_flagTimeout (s : State) : WritesOnlyItsColumn i s (flagTimeout s) := by simp [WritesOnlyItsColumn]

theorem column_goto (n : Fin 7) (s : State) : WritesOnlyItsColumn i s (goto n s) := by simp [WritesOnlyItsColumn]

theorem column_nextChannel (s : State) : WritesOnlyItsColumn i s (nextChannel s) := by simp [WritesOnlyItsColumn]

theorem column_nextSample (s : State) : WritesOnlyItsColumn i s (nextSample q s) := by simp [WritesOnlyItsColumn]

/-! ### Operations that write for some columns -/

theorem column_memWrite (h : writesXok i = true) (c : Cfg) (a : RegAddr) (v : Payload) (s : State) :
    WritesOnlyItsColumn i s (memWrite c a v s) := by
  simp [WritesOnlyItsColumn, h]

theorem writesXok_of_writesRdata (h : writesRdata i = true) : writesXok i = true := by
  cases i <;> simp [writesRdata, writesXok] at h ⊢

theorem column_memRead (h : writesRdata i = true) (c : Cfg) (a : RegAddr) (s : State) :
    WritesOnlyItsColumn i s (memRead c a s) := by
  simp [WritesOnlyItsColumn, h, writesXok_of_writesRdata h]

theorem column_pollSample (h : isComposite i = true ∨ i = .waitrdy) (s : State) :
    WritesOnlyItsColumn i s (pollSample s) := by
  rcases h with h | rfl <;> simp [WritesOnlyItsColumn, *]

theorem column_enterWait (h : isComposite i = true ∨ i = .waitrdy) (s : State) :
    WritesOnlyItsColumn i s (enterWait s) := by
  rcases h with h | rfl <;> simp [WritesOnlyItsColumn, *]

theorem column_setConv (h : isComposite i = true ∨ i = .stop ∨ ∃ r, i = .start r) (b : Bool) (s : State) :
    WritesOnlyItsColumn i s (setConv b s) := by
  rcases h with h | rfl | ⟨r, rfl⟩ <;> simp [WritesOnlyItsColumn, *]

theorem column_takeVolts (h : isComposite i = true ∨ i = .rdvolt) (c : Cfg) (s : State) :
    WritesOnlyItsColumn i s (takeVolts c s) := by
  rcases h with h | rfl <;> simp [WritesOnlyItsColumn, *]

theorem column_takeSentinel (h : isComposite i = true) (s : State) : WritesOnlyItsColumn i s (takeSentinel s) := by
  simp [WritesOnlyItsColumn, h]

theorem column_takeAverage (h : isComposite i = true) (s : State) : WritesOnlyItsColumn i s (takeAverage q s) := by
  simp [WritesOnlyItsColumn, h]

theorem column_setAccumulator (hq : compositeOf i = some q) (havg : q.averaged = true) (x : F32) (s : State) :
    WritesOnlyItsColumn i s (setAccumulator q x s) := by
  rcases averaged_cases hq havg with ⟨sel, n, rfl, rfl⟩ | ⟨n, rfl, rfl⟩ <;>
    simp [WritesOnlyItsColumn, acqavgOf, rdallavgOf]

theorem column_openAverage (hq : compositeOf i = some q) (havg : q.averaged = true) (s : State) :
    WritesOnlyItsColumn i s (openAverage s) := by
  rcases averaged_cases hq havg with ⟨sel, n, rfl, -⟩ | ⟨n, rfl, -⟩ <;> simp [WritesOnlyItsColumn]

theorem column_accumulate (hq : compositeOf i = some q) (havg : q.averaged = true) (s : State) :
    WritesOnlyItsColumn i s (accumulate q s) := by
  rcases averaged_cases hq havg with ⟨sel, n, rfl, rfl⟩ | ⟨n, rfl, rfl⟩ <;>
    simp [WritesOnlyItsColumn, acqavgOf, rdallavgOf]

theorem column_storeChannel (hq : compositeOf i = some q) (hb : q.batch = true) (s : State) :
    WritesOnlyItsColumn i s (storeChannel s) := by
  rcases batch_cases hq hb with rfl | ⟨n, rfl⟩ <;> simp [WritesOnlyItsColumn]

theorem column_noteMode (m : BitVec 8) (s : State) : WritesOnlyItsColumn (.setmode m) s (noteMode (modeCode m) s) := by
  simp [WritesOnlyItsColumn]

theorem column_noteIdentityCheck (s : State) : WritesOnlyItsColumn .chkcom s (noteIdentityCheck cfg s) := by
  simp [WritesOnlyItsColumn]

theorem column_setrateEffect (r : BitVec 8) (s : State) : WritesOnlyItsColumn (.setrate r) s (setrateEffect r s) := by
  simp [WritesOnlyItsColumn]

/-! ### What an operation runs -/

theorem column_frameAct {act : State → State} (h : frameAct i = some act) (s : State) :
    WritesOnlyItsColumn i s (act s) := by
  cases i <;> cases h
  case rdreg => exact column_memRead rfl _ _ s
  case wrreg => exact column_memWrite rfl _ _ _ s
  case selch => exact column_memWrite rfl _ _ _ s
  case start r => exact column_trans (column_memWrite rfl _ _ _ s) (column_setConv (.inr (.inr ⟨r, rfl⟩)) true _)
  case stop => exact column_trans (column_memWrite rfl _ _ _ s) (column_setConv (.inr (.inl rfl)) false _)
  case rdvolt => exact column_trans (column_memRead rfl _ _ s) (column_takeVolts (.inr rfl) cfg _)
  case setmode m => exact column_trans (column_memWrite rfl _ _ _ s) (column_noteMode m _)
  case chkcom => exact column_trans (column_memRead rfl _ _ s) (column_noteIdentityCheck _)

theorem writes_of_composite (hq : compositeOf i = some q) : writesRdata i = true ∧ writesXok i = true := by
  cases i <;> cases hq <;> exact ⟨rfl, rfl⟩

theorem isComposite_of_composite (hq : compositeOf i = some q) : isComposite i = true := by
  rw [isComposite, hq, Option.isSome_some]

theorem column_clearAverage (hq : compositeOf i = some q) (s : State) : WritesOnlyItsColumn i s (clearAverage q s) := by
  rcases clearAverage_cases q s with ⟨havg, heq⟩ | ⟨-, heq⟩ <;> rw [heq]
  · exact column_trans (column_setAccumulator hq havg zeroVolt s) (column_openAverage hq havg _)
  · exact column_refl i s

theorem column_endOfChannel (hq : compositeOf i = some q) (s : State) : WritesOnlyItsColumn i s (endOfChannel q s) := by
  rcases endOfChannel_cases q s with ⟨-, heq⟩ | ⟨hb, -, heq⟩ | ⟨hb, -, heq⟩ <;> rw [heq]
  · exact column_complete s
  · exact column_trans (column_storeChannel hq hb s) (column_nextChannel _)
  · exact column_trans (column_storeChannel hq hb s) (column_complete _)

theorem column_endOfSample (hq : compositeOf i = some q) (s : State) : WritesOnlyItsColumn i s (endOfSample q s) := by
  rcases endOfSample_cases q s with ⟨havg, heq⟩ | ⟨-, heq⟩ <;> rw [heq]
  · exact column_trans (column_accumulate hq havg s) (column_nextSample _)
  · exact column_endOfChannel hq s

theorem column_acqStep {s t : State} (hq : compositeOf i = some q) (h : AcqStep q s t) : WritesOnlyItsColumn i s t := by
  obtain ⟨hrdata, hxok⟩ := writes_of_composite hq
  have hcomp := isComposite_of_composite hq
  cases h with
  | select =>
    exact column_trans (column_trans (column_memWrite hxok _ _ _ s) (column_clearAverage hq _)) (column_goto 1 _)
  | start =>
    have hstart := column_trans (column_memWrite hxok cfg cfg.aCmd (startWord cfg s.rate) s)
      (column_setConv (.inl hcomp) true _)
    exact column_trans (column_trans hstart (column_enterWait (.inl hcomp) _)) (column_goto 2 _)
  | stay => exact column_pollSample (.inl hcomp) s
  | ready => exact column_trans (column_pollSample (.inl hcomp) s) (column_goto 3 _)
  | timeout =>
    exact column_trans (column_trans (column_pollSample (.inl hcomp) s) (column_flagTimeout _)) (column_goto 5 _)
  | stop =>
    exact column_trans (column_trans (column_memWrite hxok _ _ _ s) (column_setConv (.inl hcomp) false _))
      (column_goto 4 _)
  | read =>
    exact column_trans (column_trans (column_memRead hrdata _ _ s) (column_takeVolts (.inl hcomp) cfg _))
      (column_endOfSample hq _)
  | giveUp =>
    have hstop := column_trans (column_memWrite hxok cfg cfg.aCmd cfg.cmdStop s) (column_setConv (.inl hcomp) false _)
    exact column_trans (column_trans hstop (column_takeSentinel hcomp _)) (column_endOfSample hq _)
  | finish => exact column_trans (column_takeAverage hcomp s) (column_endOfChannel hq _)

theorem column_entry (s : State) : WritesOnlyItsColumn i s (entry i s) := by
  by_cases hwait : i = .waitrdy
  · rw [hwait]
    exact column_enterWait (.inr rfl) s
  · rw [entry_of_ne hwait]
    exact column_refl i s

end Writes

/-- Settles O53: every answer of `exec` is made of shared operations that the operation's column allows. -/
theorem operationsWriteOnlyTheirColumn : Obligations.OperationsWriteOnlyTheirColumn := by
  intro i s t hexec
  cases exec_execStep hexec with
  | hold => exact column_refl i s
  | refuse => exact column_refuseCommand s
  | accept => exact column_trans (column_latchCommand s) (column_entry _)
  | frame act hact => exact column_trans (column_frameAct hact s) (column_complete _)
  | sample hi =>
    have hpoll := column_pollSample (.inr hi) s
    rcases pollStep_outcomes cfg complete complete s with ⟨-, heq⟩ | heq | ⟨-, heq⟩ <;> rw [heq]
    · exact hpoll
    · exact column_trans hpoll (column_complete _)
    · exact column_trans (column_trans hpoll (column_flagTimeout _)) (column_complete _)
  | phase q _ hq _ hstep => exact column_acqStep hq hstep
  | setrate r hi =>
    subst hi
    exact column_trans (column_setrateEffect r s) (column_emitDone _)
  | reset => exact column_trans (column_resetEffect s) (column_emitDone _)
  | read a hi =>
    subst hi
    exact column_memRead rfl cfg a s
  | write a v hi =>
    subst hi
    exact column_memWrite rfl cfg a v s

end Sys2Proof.Columns
end

section
/-! Chip-select discipline (`40_transport.md` R129, `20_memory.md` R72): an answer of the step is a bus part, one whole frame or
one poll at most, and then a finish, one completion at most; every other update is silent on the bus. -/

namespace Sys2Proof.Bus
open Sys2Proof Sys2Proof.Machine Sys2Proof.Config Sys2Proof.Statements Sys2Proof.Sequencer

/-- No event, and chip-select as it was. -/
def Silent (s t : State) : Prop := t.trace = s.trace ∧ t.cs = s.cs

/-- At most one whole frame or one poll, and chip-select not left asserted. -/
def BusPart (s t : State) : Prop :=
  (∃ bus, t.trace = s.trace ++ bus ∧ (bus = [] ∨ WholeFrame bus ∨ ∃ l, bus = [.poll l])) ∧ (s.cs = false → t.cs = false)

/-- At most one completion, and chip-select as it was. -/
def Finish (s t : State) : Prop :=
  (∃ fin, t.trace = s.trace ++ fin ∧ (fin = [] ∨ ∃ x r, fin = [.done x r])) ∧ t.cs = s.cs

/-- What `Obligations.StepEventsAreWhole` says of a step from `s` to `t`. -/
def WholeStep (s t : State) : Prop :=
  (∃ evs, t.trace = s.trace ++ evs ∧ StepEvents evs) ∧ (s.cs = false → t.cs = false)

section Parts
variable {s t u : State}

/-! ### How the parts compose -/

theorem Silent.refl (s : State) : Silent s s := ⟨rfl, rfl⟩

theorem Silent.busPart (h : Silent s t) : BusPart s t := by
  obtain ⟨htrace, hcs⟩ := h
  exact ⟨⟨[], by simp [htrace], .inl rfl⟩, hcs.trans⟩

theorem Silent.finish (h : Silent s t) : Finish s t := by
  obtain ⟨htrace, hcs⟩ := h
  exact ⟨⟨[], by simp [htrace], .inl rfl⟩, hcs⟩

theorem BusPart.then_silent (h : BusPart s t) (hsilent : Silent t u) : BusPart s u := by
  obtain ⟨htrace, hcs⟩ := hsilent
  rwa [BusPart, htrace, hcs]

theorem Silent.then_finish (hsilent : Silent s t) (h : Finish t u) : Finish s u := by
  obtain ⟨htrace, hcs⟩ := hsilent
  rwa [Finish, ← htrace, ← hcs]

theorem Silent.then_wholeStep (hsilent : Silent s t) (h : WholeStep t u) : WholeStep s u := by
  obtain ⟨htrace, hcs⟩ := hsilent
  rwa [WholeStep, ← htrace, ← hcs]

/-- The events of the bus part, then those of the finish, are the events of one step. -/
theorem BusPart.then_finish (hbus : BusPart s t) (hfin : Finish t u) : WholeStep s u := by
  obtain ⟨⟨bus, hbusTrace, hbusForm⟩, hreleased⟩ := hbus
  obtain ⟨⟨fin, hfinTrace, hfinForm⟩, hcs⟩ := hfin
  have htrace : u.trace = s.trace ++ (bus ++ fin) := by rw [hfinTrace, hbusTrace, List.append_assoc]
  exact ⟨⟨bus ++ fin, htrace, bus, fin, rfl, hbusForm, hfinForm⟩, fun h => hcs.trans (hreleased h)⟩

theorem BusPart.wholeStep (h : BusPart s t) : WholeStep s t := h.then_finish (Silent.refl t).finish

theorem Finish.wholeStep (h : Finish s t) : WholeStep s t := (Silent.refl s).busPart.then_finish h

theorem Silent.wholeStep (h : Silent s t) : WholeStep s t := h.finish.wholeStep

end Parts

/-! ### The frames and the ready sample -/

/-- The slots of a read frame between `CSA` and `CSD` are none, or those of one whole exchange. -/
theorem wholeFrame_readSlots (a : RegAddr) (r : ReadAnswer) : WholeFrame ([.csa] ++ readSlots cfg a r ++ [.csd]) := by
  cases r with
  | none => exact .inl rfl
  | bytes r0 r1 r2 r3 => exact .inr (.inl ⟨a, r0, r1, r2, r3, rfl⟩)

theorem wholeFrame_writeSlots (a : RegAddr) (v : Payload) (ok : Bool) :
    WholeFrame ([.csa] ++ writeSlots cfg a v ok ++ [.csd]) := by
  cases ok with
  | false => exact .inl rfl
  | true => exact .inr (.inr ⟨a, v, rfl⟩)

theorem busPart_memRead (a : RegAddr) (s : State) : BusPart s (memRead cfg a s) :=
  ⟨⟨_, by simp, .inr (.inl (wholeFrame_readSlots a s.env.nextRead))⟩, fun _ => memRead_cs cfg a s⟩

theorem busPart_memWrite (a : RegAddr) (v : Payload) (s : State) : BusPart s (memWrite cfg a v s) :=
  ⟨⟨_, by simp, .inr (.inl (wholeFrame_writeSlots a v s.env.nextWrite))⟩, fun _ => memWrite_cs cfg a v s⟩

theorem busPart_pollSample (s : State) : BusPart s (pollSample s) :=
  ⟨⟨_, pollSample_trace s, .inr (.inr ⟨s.env.nextLevel, rfl⟩)⟩, (pollSample_cs s).trans⟩

theorem busPart_startPhase (r : BitVec 4) (s : State) : BusPart s (startPhase cfg r s) :=
  (busPart_memWrite cfg.aCmd (startWord cfg r) s).then_silent (by simp [Silent])

theorem busPart_stopPhase (s : State) : BusPart s (stopPhase cfg s) :=
  (busPart_memWrite cfg.aCmd cfg.cmdStop s).then_silent (by simp [Silent])

theorem busPart_readVoltPhase (s : State) : BusPart s (readVoltPhase cfg s) :=
  (busPart_memRead cfg.aData s).then_silent (by simp [Silent])

/-- The frame step of a primitive operation is one frame and silent updates after it. -/
theorem busPart_frameAct {i : Instr} {act : State → State} (h : frameAct i = some act) (s : State) :
    BusPart s (act s) := by
  cases i <;> cases h
  case rdreg a => exact busPart_memRead a s
  case wrreg a v => exact busPart_memWrite a v s
  case selch sel => exact busPart_memWrite cfg.aChctrl (chword cfg sel) s
  case start r => exact busPart_startPhase (rateCode r) s
  case stop => exact busPart_stopPhase s
  case rdvolt => exact busPart_readVoltPhase s
  case setmode m =>
    exact (busPart_memWrite cfg.aCtrl (cfg.modeword (modeCode m)) s).then_silent (by simp [Silent, setmodePhase])
  case chkcom => exact (busPart_memRead cfg.aProdid s).then_silent (by simp [Silent, chkcomPhase])

/-! ### Completions, and the ends of a sample and of a channel -/

theorem finish_emitDone (s : State) : Finish s (emitDone s) :=
  ⟨⟨_, emitDone_trace s, .inr ⟨s.owner, s.resp, rfl⟩⟩, emitDone_cs s⟩

theorem finish_complete (s : State) : Finish s (complete s) :=
  ⟨⟨_, complete_trace s, .inr ⟨s.owner, s.resp, rfl⟩⟩, complete_cs s⟩

theorem finish_refuseCommand (s : State) : Finish s (refuseCommand s) :=
  ⟨⟨_, refuseCommand_trace s, .inr ⟨s.owner, { s.resp with st := Status.refused }, rfl⟩⟩, refuseCommand_cs s⟩

theorem finish_endOfChannel (q : Acq) (s : State) : Finish s (endOfChannel q s) := by
  have hstore : Silent s (storeChannel s) := by simp [Silent]
  rcases endOfChannel_cases q s with ⟨-, heq⟩ | ⟨-, -, heq⟩ | ⟨-, -, heq⟩ <;> rw [heq]
  · exact finish_complete s
  · exact Silent.finish (by simp [Silent])
  · exact hstore.then_finish (finish_complete _)

theorem finish_endOfSample (q : Acq) (s : State) : Finish s (endOfSample q s) := by
  rcases endOfSample_cases q s with ⟨-, heq⟩ | ⟨-, heq⟩ <;> rw [heq]
  · exact Silent.finish (by simp [Silent])
  · exact finish_endOfChannel q s

/-! ### What an operation runs -/

theorem silent_clearAverage (q : Acq) (s : State) : Silent s (clearAverage q s) := by
  rcases clearAverage_cases q s with ⟨-, heq⟩ | ⟨-, heq⟩ <;> simp [Silent, heq]

theorem silent_accept (i : Instr) (s : State) : Silent s (entry i (latchCommand i s)) := by
  rw [entry]
  split <;> simp [Silent]

/-- Each row of the phase table: a frame, a poll or nothing, and a completion only from the rows that end a sample. -/
theorem wholeStep_acqStep {q : Acq} {s t : State} (h : AcqStep q s t) : WholeStep s t := by
  cases h with
  | select =>
    have hselect : BusPart s (selectPhase cfg (acqSelector q s) s) := busPart_memWrite _ _ s
    exact ((hselect.then_silent (silent_clearAverage q _)).then_silent (by simp [Silent])).wholeStep
  | start => exact ((busPart_startPhase s.rate s).then_silent (by simp [Silent])).wholeStep
  | stay => exact (busPart_pollSample s).wholeStep
  | ready => exact ((busPart_pollSample s).then_silent (by simp [Silent])).wholeStep
  | timeout => exact ((busPart_pollSample s).then_silent (by simp [Silent])).wholeStep
  | stop => exact ((busPart_stopPhase s).then_silent (by simp [Silent])).wholeStep
  | read => exact (busPart_readVoltPhase s).then_finish (finish_endOfSample q _)
  | giveUp =>
    have hsentinel : Silent (stopPhase cfg s) (takeSentinel (stopPhase cfg s)) := by simp [Silent]
    exact ((busPart_stopPhase s).then_silent hsentinel).then_finish (finish_endOfSample q _)
  | finish =>
    have haverage : Silent s (takeAverage q s) := by simp [Silent]
    exact haverage.busPart.then_finish (finish_endOfChannel q _)

/-- A micro-step of the stand-alone wait: one poll, and the completion if the sample ends the wait. -/
theorem wholeStep_waitrdy (s : State) : WholeStep s (pollStep cfg complete complete s) := by
  have hpoll := busPart_pollSample s
  rcases pollStep_outcomes cfg complete complete s with ⟨-, heq⟩ | heq | ⟨-, heq⟩ <;> rw [heq]
  · exact hpoll.wholeStep
  · exact hpoll.then_finish (finish_complete _)
  · exact (hpoll.then_silent (by simp [Silent])).then_finish (finish_complete (flagTimeout (pollSample s)))

theorem wholeStep_exec {i : Instr} {s t : State} (hexec : exec i s = .next t) : WholeStep s t := by
  cases exec_execStep hexec with
  | hold => exact (Silent.refl s).wholeStep
  | refuse => exact (finish_refuseCommand s).wholeStep
  | accept => exact (silent_accept i s).wholeStep
  | frame act hact => exact (busPart_frameAct hact s).then_finish (finish_complete _)
  | sample => exact wholeStep_waitrdy s
  | phase q _ _ _ hstep => exact wholeStep_acqStep hstep
  | setrate r =>
    have heffect : Silent s (setrateEffect r s) := by simp [Silent]
    exact heffect.busPart.then_finish (finish_emitDone _)
  | reset =>
    have heffect : Silent s (resetEffect s) := by simp [Silent]
    exact heffect.busPart.then_finish (finish_emitDone _)
  | read a => exact (busPart_memRead a s).wholeStep
  | write a v => exact (busPart_memWrite a v s).wholeStep

/-! ### The whole step -/

/-- Taking a word from the port is no bus event. -/
theorem silent_takeCommand {s u : State} {w : CommandWord} (h : takeCommand s = some (w, u)) : Silent s u := by
  rcases takeCommand_cases s with ⟨-, -, heq⟩ | ⟨_, _, -, -, heq⟩ | ⟨_, _, -, -, heq⟩ |
    ⟨_, _, _, _, -, -, ⟨-, heq⟩ | ⟨-, heq⟩⟩ <;> cases heq.symm.trans h <;> simp [Silent]

/-- Settles O52: a busy step is a micro-step of the operation in progress; an idle one takes a frame or a word silently and runs
or refuses it, or does nothing. -/
theorem stepEventsAreWhole : Obligations.StepEventsAreWhole := by
  intro s t hstep
  change WholeStep s t
  cases hbusy : s.busy with
  | true =>
    rcases step_busy s hbusy with ⟨i, -, heq⟩ | ⟨-, heq⟩
    · exact wholeStep_exec (heq.symm.trans hstep)
    · cases heq.symm.trans hstep
  | false =>
    rcases step_idle s hbusy with ⟨_, i, -, -, heq⟩ | ⟨_, _, -, -, heq⟩ | ⟨-, -, heq⟩ | ⟨w, u, i, -, htake, -, heq⟩ |
      ⟨w, u, e, -, htake, -, heq⟩
    · have htaken : Silent s (takeFrame s) := by simp [Silent]
      exact htaken.then_wholeStep (wholeStep_exec (heq.symm.trans hstep))
    · cases heq.symm.trans hstep
    · cases heq.symm.trans hstep
      exact (Silent.refl s).wholeStep
    · exact (silent_takeCommand htake).then_wholeStep (wholeStep_exec (heq.symm.trans hstep))
    · cases heq.symm.trans hstep
      exact (silent_takeCommand htake).then_wholeStep (finish_refuseCommand u).wholeStep

end Sys2Proof.Bus
end

section
/-! The command decoder of `30_encoding.md` R108 against the operand formats of R97: where the operands stand in a word, what
the reserved masks and the range checks ask, and so that `decode` and `encode` are inverse to each other. -/

namespace Sys2Proof.Encoding
open Sys2Proof Sys2Proof.Statements

/-! ### Concatenations -/

theorem append_inj_iff {n k : Nat} {hi hi' : BitVec n} {lo lo' : BitVec k} :
    hi ++ lo = hi' ++ lo' ↔ hi = hi' ∧ lo = lo' := by
  constructor
  · intro h
    have hhi := congrArg (BitVec.extractLsb' k n) h
    have hlo := congrArg (BitVec.extractLsb' 0 k) h
    simp only [BitVec.extractLsb'_append_eq_left, BitVec.extractLsb'_append_eq_right] at hhi hlo
    exact ⟨hhi, hlo⟩
  · rintro ⟨rfl, rfl⟩
    rfl

theorem append_eq_zero_iff {n k : Nat} {hi : BitVec n} {lo : BitVec k} : hi ++ lo = 0#(n + k) ↔ hi = 0#n ∧ lo = 0#k := by
  rw [← BitVec.zero_append_zero, append_inj_iff]

/-! ### The opcode and the fields of a word put together (`30_encoding.md` R95, R97) -/

section Fields
variable (op : Byte) (a : RegAddr) (v : Payload) (sel : BitVec 5) (n : BitVec 16) (b : BitVec 8)

@[simp] theorem opcodeOf_append (field : BitVec 32) : opcodeOf (op ++ field) = op := BitVec.extractLsb'_append_eq_left

@[simp] theorem operandField_append (field : BitVec 32) : operandField (op ++ field) = field :=
  BitVec.extractLsb'_append_eq_right

theorem opcodeOf_append_operandField (w : CommandWord) : opcodeOf w ++ operandField w = w :=
  (BitVec.extractLsb'_append_extractLsb'_eq_extractLsb' rfl).trans BitVec.extractLsb'_eq_self

theorem fieldA_append (hi : BitVec 1) (lo : BitVec 24) : fieldA (op ++ (hi ++ a ++ lo)) = a := by
  rw [fieldA, BitVec.extractLsb'_append_eq_of_add_le (by decide), BitVec.extractLsb'_append_eq_of_le (by decide)]
  exact BitVec.extractLsb'_append_eq_right

theorem fieldV_append (hi : BitVec 8) : fieldV (op ++ (hi ++ v)) = v := by
  rw [fieldV, BitVec.extractLsb'_append_eq_of_add_le (by decide)]
  exact BitVec.extractLsb'_append_eq_right

theorem fieldS_append (hi : BitVec 27) : fieldS (op ++ (hi ++ sel)) = sel := by
  rw [fieldS, BitVec.extractLsb'_append_eq_of_add_le (by decide)]
  exact BitVec.extractLsb'_append_eq_right

theorem fieldSCN_append (hi : BitVec 11) : fieldSCN (op ++ (hi ++ sel ++ n)) = sel := by
  rw [fieldSCN, BitVec.extractLsb'_append_eq_of_add_le (by decide), BitVec.extractLsb'_append_eq_of_le (by decide)]
  exact BitVec.extractLsb'_append_eq_right

theorem fieldN_append (hi : BitVec 16) : fieldN (op ++ (hi ++ n)) = n := by
  rw [fieldN, BitVec.extractLsb'_append_eq_of_add_le (by decide)]
  exact BitVec.extractLsb'_append_eq_right

theorem fieldB_append (hi : BitVec 24) : fieldB (op ++ (hi ++ b)) = b := by
  rw [fieldB, BitVec.extractLsb'_append_eq_of_add_le (by decide)]
  exact BitVec.extractLsb'_append_eq_right

end Fields

/-! ### The checks of a format, by slices of the word -/

/-- The reserved bits of a format are 0 (`30_encoding.md` R97, R99 a). -/
def ReservedZero : Format → CommandWord → Prop
  | .N, w => w.extractLsb' 0 32 = 0#32
  | .A, w => w.extractLsb' 31 1 = 0#1 ∧ w.extractLsb' 0 24 = 0#24
  | .W, w => w.extractLsb' 31 1 = 0#1
  | .C, w => w.extractLsb' 5 27 = 0#27
  | .CN, w => w.extractLsb' 21 11 = 0#11
  | .K, w => w.extractLsb' 16 16 = 0#16
  | .R, w => w.extractLsb' 8 24 = 0#24
  | .M, w => w.extractLsb' 8 24 = 0#24

/-- The operands of a format are in range (`30_encoding.md` R99 b to e). -/
def inRange : Format → CommandWord → Bool
  | .N, _ => true
  | .A, _ => true
  | .W, _ => true
  | .C, w => selectorOk (fieldS w)
  | .CN, w => selectorOk (fieldSCN w) && countOk (fieldN w)
  | .K, w => countOk (fieldN w)
  | .R, w => rateOk (fieldB w)
  | .M, w => modeOk (fieldB w)

/-- The operand field that the operands of a format give, with the reserved bits 0 (`30_encoding.md` R97). -/
def layout : Format → CommandWord → BitVec 32
  | .N, _ => 0#32
  | .A, w => 0#1 ++ fieldA w ++ 0#24
  | .W, w => 0#1 ++ fieldA w ++ fieldV w
  | .C, w => 0#27 ++ fieldS w
  | .CN, w => 0#11 ++ fieldSCN w ++ fieldN w
  | .K, w => 0#16 ++ fieldN w
  | .R, w => 0#24 ++ fieldB w
  | .M, w => 0#24 ++ fieldB w

/-! An operand field is the concatenation of its slices: a mask of the upper slice tests that slice, and so does a comparison
with the lower slice under zeros. -/

section Slices
variable {n k : Nat} {x : BitVec (n + k)} {hi : BitVec n} {lo : BitVec k}

theorem and_upperMask_eq_zero_iff (h : x = hi ++ lo) : x &&& (BitVec.allOnes n ++ 0#k) = 0#(n + k) ↔ hi = 0#n := by
  rw [h, BitVec.and_append, BitVec.and_allOnes, BitVec.and_zero, append_eq_zero_iff]
  exact and_iff_left rfl

theorem eq_zero_append_iff (h : x = hi ++ lo) : x = 0#n ++ lo ↔ hi = 0#n := by
  rw [h, BitVec.append_left_inj]

end Slices

/-- Two neighbouring slices are one. -/
theorem slice_split {width : Nat} (x : BitVec width) (k n m : Nat) :
    x.extractLsb' k (m + n) = x.extractLsb' (k + n) m ++ x.extractLsb' k n :=
  (BitVec.extractLsb'_append_extractLsb'_eq_extractLsb' rfl).symm

/-- The address and the payload under the reserved bit 31 of formats A and W. -/
theorem operandField_split_address (w : CommandWord) :
    operandField w = w.extractLsb' 31 1 ++ fieldA w ++ w.extractLsb' 0 24 := by
  rw [fieldA, ← slice_split w 24 7 1]
  exact slice_split w 0 24 8

/-- The selector and the count under the reserved bits of format CN. -/
theorem operandField_split_count (w : CommandWord) :
    operandField w = w.extractLsb' 21 11 ++ fieldSCN w ++ fieldN w := by
  rw [fieldSCN, ← slice_split w 16 5 11]
  exact slice_split w 0 16 16

/-- The reserved mask of `30_encoding.md` R108 tests the reserved bits of R97. -/
theorem and_reservedMask_eq_zero_iff (f : Format) (w : CommandWord) :
    operandField w &&& reservedMask f = 0#32 ↔ ReservedZero f w := by
  cases f with
  | N => exact and_upperMask_eq_zero_iff (slice_split w 0 0 32)
  | A =>
    have hmask : reservedMask .A = BitVec.allOnes 1 ++ 0#7 ++ BitVec.allOnes 24 := rfl
    rw [hmask, operandField_split_address, BitVec.and_append, BitVec.and_allOnes, append_eq_zero_iff]
    exact and_congr_left' (and_upperMask_eq_zero_iff rfl)
  | W => exact and_upperMask_eq_zero_iff (slice_split w 0 31 1)
  | C => exact and_upperMask_eq_zero_iff (slice_split w 0 5 27)
  | CN => exact and_upperMask_eq_zero_iff (slice_split w 0 21 11)
  | K => exact and_upperMask_eq_zero_iff (slice_split w 0 16 16)
  | R => exact and_upperMask_eq_zero_iff (slice_split w 0 8 24)
  | M => exact and_upperMask_eq_zero_iff (slice_split w 0 8 24)

/-- With the reserved bits 0, and only then, the operand field is what its operands give. -/
theorem operandField_eq_layout_iff (f : Format) (w : CommandWord) : operandField w = layout f w ↔ ReservedZero f w := by
  cases f with
  | N => rfl
  | A =>
    rw [operandField_split_address, layout, append_inj_iff]
    exact and_congr_left' (eq_zero_append_iff rfl)
  | W =>
    rw [operandField_split_address, layout, append_inj_iff]
    exact (and_iff_left rfl).trans (eq_zero_append_iff rfl)
  | C => exact eq_zero_append_iff (slice_split w 0 5 27)
  | CN =>
    rw [operandField_split_count, layout, BitVec.append_left_inj]
    exact eq_zero_append_iff rfl
  | K => exact eq_zero_append_iff (slice_split w 0 16 16)
  | R => exact eq_zero_append_iff (slice_split w 0 8 24)
  | M => exact eq_zero_append_iff (slice_split w 0 8 24)

theorem rangeError_eq_none_iff (f : Format) (w : CommandWord) : rangeError f w = none ↔ inRange f w = true := by
  cases f with
  | CN => cases hsel : selectorOk (fieldSCN w) <;> simp [rangeError, inRange, hsel]
  | _ => simp [rangeError, inRange]

/-! ### The decoder -/

/-- The decoder answers the operation of an opcode of the table whose reserved bits are 0 and whose operands are in range, and
refuses every other word. -/
theorem decode_cases (w : CommandWord) :
    (∃ f, formatOf (opcodeOf w) = some f ∧ ReservedZero f w ∧ inRange f w = true ∧ decode w = operationOf w) ∨
    ((∀ f, formatOf (opcodeOf w) = some f → ReservedZero f w → inRange f w = false) ∧ ∃ e, decode w = .error e) := by
  cases hf : formatOf (opcodeOf w) with
  | none => exact .inr ⟨fun _ h => (nomatch h), .unknownOpcode, by simp [decode, hf]⟩
  | some f =>
    by_cases hmask : operandField w &&& reservedMask f = 0#32
    · cases hrange : rangeError f w with
      | none =>
        refine .inl ⟨f, rfl, (and_reservedMask_eq_zero_iff f w).1 hmask, (rangeError_eq_none_iff f w).1 hrange, ?_⟩
        simp [decode, hf, hmask, hrange]
      | some e =>
        refine .inr ⟨?_, e, by simp [decode, hf, hmask, hrange]⟩
        rintro _ ⟨⟩ -
        exact Bool.eq_false_iff.2 fun hin => nomatch hrange.symm.trans ((rangeError_eq_none_iff f w).2 hin)
    · refine .inr ⟨?_, .reservedBits, by simp [decode, hf, hmask]⟩
      rintro _ ⟨⟩ hzero
      exact absurd ((and_reservedMask_eq_zero_iff f w).2 hzero) hmask

/-- The row of the table that an operation is read from: its opcode has a format, it is encoded as that opcode and the
layout of its operands, and it is well formed where they are in range. -/
theorem row_of_operationOf {w : CommandWord} {i : Instr} (h : operationOf w = .ok i) :
    ∃ f, formatOf (opcodeOf w) = some f ∧ encode i = commandWord (opcodeOf w) (layout f w) ∧
      i.wellFormed = inRange f w := by
  have hcode (n : Nat) (hn : (opcodeOf w).toNat = n) : opcodeOf w = BitVec.ofNat 8 n := by simp [← hn]
  unfold operationOf at h
  split at h
  all_goals cases h
  all_goals
    rename_i hn
    rw [hcode _ hn]
    exact ⟨_, rfl, rfl, rfl⟩

/-- A command's word holds its opcode and its operands. -/
theorem operationOf_of_encode {w : CommandWord} {i : Instr} (h : encode i = .command w) : operationOf w = .ok i := by
  cases i with
  | rdreg a => cases h; rw [operationOf, opcodeOf_append, fieldA_append]; rfl
  | wrreg a v => cases h; rw [operationOf, opcodeOf_append, fieldA_append, fieldV_append]; rfl
  | selch sel => cases h; rw [operationOf, opcodeOf_append, fieldS_append]; rfl
  | start r => cases h; rw [operationOf, opcodeOf_append, fieldB_append]; rfl
  | stop => cases h; rw [operationOf, opcodeOf_append]; rfl
  | waitrdy => cases h; rw [operationOf, opcodeOf_append]; rfl
  | rdvolt => cases h; rw [operationOf, opcodeOf_append]; rfl
  | acq1 sel => cases h; rw [operationOf, opcodeOf_append, fieldS_append]; rfl
  | acqavg sel n => cases h; rw [operationOf, opcodeOf_append, fieldSCN_append, fieldN_append]; rfl
  | rdall => cases h; rw [operationOf, opcodeOf_append]; rfl
  | rdallavg n => cases h; rw [operationOf, opcodeOf_append, fieldN_append]; rfl
  | setmode m => cases h; rw [operationOf, opcodeOf_append, fieldB_append]; rfl
  | setrate r => cases h; rw [operationOf, opcodeOf_append, fieldB_append]; rfl
  | chkcom => cases h; rw [operationOf, opcodeOf_append]; rfl
  | reset => cases h; rw [operationOf, opcodeOf_append]; rfl
  | frameRd a => cases h
  | frameWr a v => cases h

end Sys2Proof.Encoding
end

section
/-! The words and frames of the opcode table and the two directions of the round trip: the words that are refused, the frame
patterns, the statements about decoding. -/

namespace Sys2Proof.Encoding
open Sys2Proof Sys2Proof.Statements

/-- The opcodes of each format (`30_encoding.md` R96). -/
def opcodesOf : Format → List Byte
  | .N => [0x12#8, 0x13#8, 0x14#8, 0x22#8, 0x32#8, 0x33#8]
  | .A => [0x01#8]
  | .W => [0x02#8]
  | .C => [0x10#8, 0x20#8]
  | .CN => [0x21#8]
  | .K => [0x23#8]
  | .R => [0x11#8, 0x31#8]
  | .M => [0x30#8]

theorem formatOf_eq_some_iff (op : Byte) (f : Format) : formatOf op = some f ↔ op ∈ opcodesOf f := by
  revert op
  cases f <;> decide

theorem formatOf_eq_none_iff (op : Byte) : formatOf op = none ↔ op ∉ opcodes := by
  revert op
  decide

/-- An opcode of the table is refused by the check of its format and by no other clause of R99. -/
theorem refusedWord_iff_of_format {w : CommandWord} {f : Format} (hf : formatOf (opcodeOf w) = some f) :
    RefusedWord w ↔ (ReservedZero f w → inRange f w = false) := by
  have hopcode : w.extractLsb' 32 8 = opcodeOf w := rfl
  have hmem := (formatOf_eq_some_iff (opcodeOf w) f).1 hf
  cases f <;> simp only [opcodesOf, List.mem_cons, List.not_mem_nil, or_false] at hmem
  case N =>
    rcases hmem with h | h | h | h | h | h <;> simp [RefusedWord, opcodes, hopcode, h, ReservedZero, inRange]
  case C =>
    rcases hmem with h | h <;> simp [RefusedWord, opcodes, hopcode, h, ReservedZero, inRange, fieldS, imp_iff_not_or]
  case R =>
    rcases hmem with h | h <;> simp [RefusedWord, opcodes, hopcode, h, ReservedZero, inRange, fieldB, imp_iff_not_or]
  all_goals
    simp [RefusedWord, opcodes, hopcode, hmem, ReservedZero, inRange, fieldSCN, fieldN, fieldB, imp_iff_not_or]

/-- The words of `30_encoding.md` R99 and R100 are those whose opcode has no format, and those that fail a check of their
opcode's format. -/
theorem refusedWord_iff (w : CommandWord) :
    RefusedWord w ↔ ∀ f, formatOf (opcodeOf w) = some f → ReservedZero f w → inRange f w = false := by
  cases hf : formatOf (opcodeOf w) with
  | none => exact ⟨fun _ _ h => (nomatch h), fun _ => .inl ((formatOf_eq_none_iff _).1 hf)⟩
  | some f => simp [refusedWord_iff_of_format hf]

/-- The decoder answers exactly the well-formed instruction that the word encodes (`30_encoding.md` R97, R98, R108). -/
theorem decode_eq_ok_iff (w : CommandWord) (i : Instr) :
    decode w = .ok i ↔ i.wellFormed = true ∧ encode i = .command w := by
  constructor
  · intro h
    obtain ⟨f, hf, hencode, hw⟩ := row_of_operationOf (Sequencer.operationOf_of_decode h)
    rcases decode_cases w with ⟨f', hf', hzero, hrange, -⟩ | ⟨-, e, he⟩
    · cases hf.symm.trans hf'
      rw [← (operandField_eq_layout_iff f w).2 hzero, commandWord, opcodeOf_append_operandField] at hencode
      exact ⟨hw.trans hrange, hencode⟩
    · cases he.symm.trans h
  · rintro ⟨hw, hencode⟩
    have hop := operationOf_of_encode hencode
    obtain ⟨f, hf, hlayout, hrange⟩ := row_of_operationOf hop
    have hword : w = opcodeOf w ++ layout f w := Encoded.command.inj (hencode.symm.trans hlayout)
    have hfield : operandField w = layout f w := (congrArg operandField hword).trans (operandField_append _ _)
    rcases decode_cases w with ⟨-, -, -, -, heq⟩ | ⟨hrefused, -⟩
    · exact heq.trans hop
    · have hout := hrefused f hf ((operandField_eq_layout_iff f w).1 hfield)
      cases hout.symm.trans (hrange.symm.trans hw)

/-- Every opcode that has a format names an operation (`30_encoding.md` R96). -/
theorem exists_operationOf_of_format {w : CommandWord} {f : Format} (hf : formatOf (opcodeOf w) = some f) :
    ∃ i, operationOf w = .ok i := by
  unfold formatOf at hf
  split at hf
  case h_16 => cases hf
  all_goals
    rename_i hcode
    simp [operationOf, hcode]

/-! ### Frames -/

/-- The frame patterns of the opcode table are read back (`30_encoding.md` R91, R92). -/
theorem decodeFrame_of_encode {i : Instr} {bytes : List Byte} (h : encode i = .frame bytes) : decodeFrame bytes = .ok i := by
  cases i with
  | frameRd a =>
    cases h
    have haddr : (a ++ 1#1).extractLsb' 1 7 = a := BitVec.extractLsb'_append_eq_left
    have hread : (a ++ 1#1).getLsbD 0 = true := Machine.getLsbD_append_low a 1#1 0 (by decide)
    simp [-BitVec.getLsbD_eq_getElem, decodeFrame, haddr, hread]
  | frameWr a v =>
    cases h
    have haddr : (a ++ 0#1).extractLsb' 1 7 = a := BitVec.extractLsb'_append_eq_left
    have hwrite : (a ++ 0#1).getLsbD 0 = false := Machine.getLsbD_append_low a 0#1 0 (by decide)
    have hpayload : v.extractLsb' 16 8 ++ v.extractLsb' 8 8 ++ v.extractLsb' 0 8 = v := by
      rw [← slice_split v 8 8 8]
      exact (slice_split v 0 8 16).symm.trans BitVec.extractLsb'_eq_self
    simp [-BitVec.getLsbD_eq_getElem, decodeFrame, haddr, hwrite, hpayload]
  | _ => cases h

/-- The bytes of a write frame's number are its control byte and the payload's, in transmission order. -/
theorem encode_frameWr_eq_frameBytes4 (a : RegAddr) (v : Payload) :
    encode (.frameWr a v) = .frame (frameBytes4 (a ++ 0#1 ++ v)) := by
  have hctl : (a ++ 0#1 ++ v).extractLsb' 24 8 = a ++ 0#1 := BitVec.extractLsb'_append_eq_left
  have hdata (k : Nat) (hk : k + 8 ≤ 24) : (a ++ 0#1 ++ v).extractLsb' k 8 = v.extractLsb' k 8 :=
    BitVec.extractLsb'_append_eq_of_add_le hk
  rw [frameBytes4, hctl, hdata 16 (by decide), hdata 8 (by decide), hdata 0 (by decide)]
  rfl

/-- The bytes of a read frame's number are its control byte and four zero fill bytes, in transmission order. -/
theorem encode_frameRd_eq_frameBytes5 (a : RegAddr) :
    encode (.frameRd a) = .frame (frameBytes5 ((a ++ 1#1) ++ 0#32)) := by
  have hctl : ((a ++ 1#1) ++ 0#32).extractLsb' 32 8 = a ++ 1#1 := BitVec.extractLsb'_append_eq_left
  have hfill (k : Nat) (hk : k + 8 ≤ 32) : ((a ++ 1#1) ++ 0#32).extractLsb' k 8 = 0#8 :=
    (BitVec.extractLsb'_append_eq_of_add_le hk).trans BitVec.extractLsb'_zero
  rw [frameBytes5, hctl, hfill 24 (by decide), hfill 16 (by decide), hfill 8 (by decide), hfill 0 (by decide)]
  rfl

/-! ### The statements -/

/-- Settles O1: a command word by `decode_eq_ok_iff`, a frame by its pattern. -/
theorem decodeOfEncode : Obligations.DecodeOfEncode := by
  intro i hw
  cases hencode : encode i with
  | command w => exact (decode_eq_ok_iff w i).2 ⟨hw, hencode⟩
  | frame bytes => exact decodeFrame_of_encode hencode

/-- Settles O2. -/
theorem encodeOfDecode : Obligations.EncodeOfDecode := fun w i h => (decode_eq_ok_iff w i).1 h

/-- Settles O3: by the two cases of the decoder, a word that passes the checks of its format and one that fails a check. -/
theorem decodeRefusesExactly : Obligations.DecodeRefusesExactly := by
  intro w
  rw [refusedWord_iff]
  rcases decode_cases w with ⟨f, hf, hzero, hrange, heq⟩ | ⟨hrefused, herror⟩
  · obtain ⟨i, hop⟩ := exists_operationOf_of_format hf
    refine ⟨?_, fun hrefused => ?_⟩
    · rintro ⟨e, herror⟩
      cases herror.symm.trans (heq.trans hop)
    · cases hrange.symm.trans (hrefused f hf hzero)
  · exact ⟨fun _ => hrefused, fun _ => herror⟩

/-- Settles O4: each word is the encoding of its operation. -/
theorem sampleWordsDecode : Obligations.SampleWordsDecode := by
  have hdecode (w : CommandWord) (i : Instr) (hw : i.wellFormed = true) (hencode : encode i = .command w) :
      decode w = .ok i := (decode_eq_ok_iff w i).2 ⟨hw, hencode⟩
  refine ⟨?_, ?_, ?_, ?_, ?_, ?_, ?_, ?_, ?_, ?_, ?_, ?_, ?_, ?_, ?_⟩
  all_goals exact hdecode _ _ rfl rfl

/-- Settles O5: the level at which each number is presented, and there the word or frame that `encode` gives. -/
theorem tableWordsDecode : Obligations.TableWordsDecode := by
  refine ⟨fun i w hw hencode => ?_, fun a v => ?_, fun a e herror => ?_⟩
  · have hdecode : decode w = .ok i := (decode_eq_ok_iff w i).2 ⟨hw, hencode⟩
    have hlevel : tableEncoded 40 w.toNat = .command w := by simp [tableEncoded, hdecode]
    simp [decodeTableWord, hlevel, decodeEncoded, hdecode]
  · have hframe := decodeFrame_of_encode (encode_frameWr_eq_frameBytes4 a v)
    have hlevel : tableEncoded 32 (a ++ 0#1 ++ v).toNat = .frame (frameBytes4 (a ++ 0#1 ++ v)) := by
      rw [tableEncoded, if_pos rfl, BitVec.ofNat_toNat, BitVec.setWidth_eq]
    simp [decodeTableWord, hlevel, decodeEncoded, hframe]
  · have hframe := decodeFrame_of_encode (encode_frameRd_eq_frameBytes5 a)
    have hlevel : tableEncoded 40 ((a ++ 1#1) ++ 0#32).toNat = .frame (frameBytes5 ((a ++ 1#1) ++ 0#32)) := by
      simp [tableEncoded, herror, hframe]
    simp [decodeTableWord, hlevel, decodeEncoded, hframe]

end Sys2Proof.Encoding
end

section
/-! Control bytes (`30_encoding.md` R93). -/

namespace Sys2Proof.Encoding
open Sys2Proof Sys2Proof.Machine Sys2Proof.Config

/-- An address over the read-or-write bit, as a number. -/
theorem toNat_append_bit (a : RegAddr) (b : BitVec 1) : (a ++ b).toNat = 2 * a.toNat + b.toNat := by
  rw [BitVec.toNat_append, ← Nat.shiftLeft_add_eq_or_of_lt b.isLt, Nat.shiftLeft_eq]
  omega

theorem shiftLeft_one_eq_append (a : RegAddr) : a.setWidth 8 <<< 1 = a ++ 0#1 := by
  apply BitVec.eq_of_toNat_eq
  have hwidth : a.toNat < 2 ^ 7 := a.isLt
  rw [toNat_append_bit, BitVec.toNat_shiftLeft, BitVec.toNat_setWidth, Nat.shiftLeft_eq,
    BitVec.toNat_ofNat]
  omega

theorem getLsbD_readBit (c : Cfg) (j : Nat) : (readBit c).getLsbD j = decide (j = c.readBitPos.val) := by
  have htwo : readBit c = BitVec.twoPow 8 c.readBitPos.val := (BitVec.twoPow_eq 8 c.readBitPos.val).symm
  rw [htwo, BitVec.getLsbD_twoPow]
  simp [c.readBitPos.isLt, eq_comm]

/-- Settles O6: both control bytes are the shifted address, with the one read bit set or cleared in it. -/
theorem controlBytes : Obligations.ControlBytes := by
  intro c a
  refine ⟨fun j hj => ?_, fun j hj => ?_, fun hpos => ?_⟩
  · rw [ctlR, shiftLeft_one_eq_append, BitVec.getLsbD_or, getLsbD_readBit, Bool.or_comm]
  · rw [ctlW, shiftLeft_one_eq_append, BitVec.getLsbD_and, BitVec.getLsbD_not, getLsbD_readBit, Bool.and_comm]
    simp [hj]
  · have hbit : readBit c = 0#7 ++ 1#1 := by rw [readBit, hpos]; rfl
    have hread : ctlR c a = a ++ 1#1 := by
      rw [ctlR, shiftLeft_one_eq_append, hbit, BitVec.or_append, BitVec.or_zero]
      rfl
    have hwrite : ctlW c a = a ++ 0#1 := by
      have hclear : ~~~readBit c = BitVec.allOnes 7 ++ 0#1 := by rw [hbit]; rfl
      rw [ctlW, shiftLeft_one_eq_append, hclear, BitVec.and_append, BitVec.and_allOnes, BitVec.and_zero]
    rw [hread, hwrite, toNat_append_bit, toNat_append_bit]
    exact ⟨rfl, rfl⟩

end Sys2Proof.Encoding
end

section
/-! What an idle block does with a frame asked of its transport and with a word that is refused (`30_encoding.md` R99, R100). -/

namespace Sys2Proof.Sequencer
open Sys2Proof Sys2Proof.Machine Sys2Proof.Config Sys2Proof.Statements

/-- Settles O9: of what an idle block can do, only performing the frame fits a frame that is asked and decodes. -/
theorem stepRunsAskedFrame : Obligations.StepRunsAskedFrame := by
  intro s bytes i hidle hxfer hdecode
  rcases step_idle s hidle with ⟨bytes', j, hx, hd, hstep⟩ | ⟨bytes', e, hx, hd, -⟩ | ⟨hx, -⟩ | ⟨_, _, _, hx, -⟩ |
    ⟨_, _, _, hx, -⟩ <;> cases hxfer.symm.trans hx
  · cases hdecode.symm.trans hd
    exact hstep
  · cases hdecode.symm.trans hd

/-- Settles O12: the decoder refuses the word (`decodeRefusesExactly`), and in each way a word can be presented the refusal
writes `ST` and the completion alone. -/
theorem refusedWordSetsBadopOnly : Obligations.RefusedWordSetsBadopOnly := by
  intro x w s u hidle hxfer hpresented hrefused
  obtain ⟨e, herror⟩ := (Encoding.decodeRefusesExactly w).2 hrefused
  have hstep : step s = .next (refuseCommand u) := by
    simp [step, hidle, hxfer, takeCommand_of_presented hpresented, herror]
  rw [hstep]
  cases x with
  | main => obtain ⟨_, -, ⟨-, rfl⟩ | ⟨-, -, rfl⟩⟩ := hpresented <;> rfl
  | timer => obtain ⟨_, -, ⟨-, rfl⟩ | ⟨-, -, rfl⟩⟩ := hpresented <;> rfl

end Sys2Proof.Sequencer
end

section
/-! The phases of ACQ1 against the primitive operations (`30_encoding.md` R107): both run the same frame step or ready sample,
which reads nothing of the sequencer; the primitive then completes. -/

namespace Sys2Proof.Sequencer
open Sys2Proof Sys2Proof.Machine Sys2Proof.Config Sys2Proof.Statements

section Phases
variable {i : Instr} {sel : BitVec 5} {s t u : State}

theorem running_asPrimitive (hw : i.wellFormed = true) : Running i (asPrimitive i s) := ⟨hw, rfl, rfl⟩

theorem exec_asPrimitive {act : State → State} (hact : frameAct i = some act) (hw : i.wellFormed = true) :
    exec i (asPrimitive i s) = .next (complete (act (asPrimitive i s))) :=
  exec_of_frameAct hact (running_asPrimitive hw) rfl

/-- A satisfying sample is tested before the bound (`41_channel_primitives.md` R150). -/
theorem pollStep_of_sampleReady (ready timeout : State → State) (h : SampleReady s) :
    pollStep cfg ready timeout s = ready (pollSample s) := by
  obtain ⟨hlow, hsense⟩ := h
  have hseen : cfg.readySense = .level ∨ (pollSample s).seenhi = true := by simpa [hlow] using hsense
  have hresult : pollResult cfg s = .ready := if_pos ⟨hlow, hseen⟩
  rw [pollStep, hresult]

theorem exec_waitrdy_asPrimitive (h : SampleReady s) :
    exec .waitrdy (asPrimitive .waitrdy s) = .next (complete (pollSample (asPrimitive .waitrdy s))) := by
  have hready : SampleReady (asPrimitive .waitrdy s) := h
  have hph : (asPrimitive .waitrdy s).ph = 0 := rfl
  rw [exec_waitrdy, runOperation_of_running enterWait _ (running_asPrimitive rfl), waitrdyPhase, if_pos hph,
    pollStep_of_sampleReady complete complete hready]

/-- A rate code as START's operand is in range and is its own code (`30_encoding.md` R103). -/
theorem rateCode_setWidth (r : BitVec 4) : rateCode (r.setWidth 8) = r := by
  have happend : r.setWidth 8 = 0#4 ++ r := BitVec.setWidth_eq_append (by decide)
  rw [rateCode, happend]
  exact BitVec.extractLsb'_append_eq_right

theorem rateOk_setWidth (r : BitVec 4) : rateOk (r.setWidth 8) = true := by
  have hlt : r.toNat < 2 ^ 4 := r.isLt
  rw [rateOk, decide_eq_true_iff, BitVec.toNat_setWidth]
  omega

/-- A completion adds its response to the trace and changes no result. -/
theorem matches_complete (hresults : SameResults t u) (htrace : u.trace = t.trace) (howner : u.owner = s.owner) :
    SameResults t (complete u) ∧ (complete u).trace = t.trace ++ [.done s.owner (complete u).resp] := by
  refine ⟨hresults, ?_⟩
  rw [complete_trace, resp_complete, htrace, howner]

end Phases

/-- Settles O31: phase by phase, the primitive's frame step or ready sample is the one ACQ1 performs. -/
theorem phasesMatchPrimitives : Obligations.PhasesMatchPrimitives := by
  intro sel s hrun
  have hacq : exec (.acq1 sel) s = acqPhase cfg (acq1Of sel) s :=
    (exec_composite rfl s).trans (runOperation_of_running id _ hrun)
  obtain ⟨hselector, -, -⟩ := hrun
  refine ⟨fun hph => ?select, fun hph => ?start, fun hph hready => ?wait, fun hph => ?stop, fun hph => ?read⟩
  case select =>
    refine ⟨_, _, hacq.trans (by rw [acqPhase, hph]), exec_asPrimitive (i := .selch sel) rfl hselector, ?_⟩
    exact matches_complete ⟨rfl, rfl, rfl, rfl, rfl, rfl⟩ rfl rfl
  case start =>
    refine ⟨_, _, hacq.trans (by rw [acqPhase, hph]), exec_asPrimitive rfl (rateOk_setWidth s.rate), ?_⟩
    rw [rateCode_setWidth]
    exact matches_complete ⟨rfl, rfl, rfl, rfl, rfl, rfl⟩ rfl rfl
  case wait =>
    refine ⟨_, _, hacq.trans (by rw [acqPhase, hph]), exec_waitrdy_asPrimitive hready, ?_⟩
    rw [pollStep_of_sampleReady (goto 3) (goto 5) hready]
    exact matches_complete ⟨rfl, rfl, rfl, rfl, rfl, rfl⟩ rfl rfl
  case stop =>
    refine ⟨_, _, hacq.trans (by rw [acqPhase, hph]), exec_asPrimitive rfl rfl, ?_⟩
    exact matches_complete ⟨rfl, rfl, rfl, rfl, rfl, rfl⟩ rfl rfl
  case read =>
    refine ⟨_, _, hacq.trans (by rw [acqPhase, hph]), exec_asPrimitive rfl rfl, ?_⟩
    exact ⟨⟨rfl, rfl, rfl, rfl, rfl, rfl⟩, rfl⟩

end Sys2Proof.Sequencer
end

section
/-! The register transport (`40_transport.md` R121 to R130): a read frame in the words of the statements, as
`memWrite_eq_afterWrite` has the write frame; then the four operations that are one frame. -/

namespace Sys2Proof.Sequencer
open Sys2Proof Sys2Proof.Machine Sys2Proof.Config Sys2Proof.Statements

theorem memRead_eq_afterRead {a : RegAddr} {s : State} {r0 r1 r2 r3 : Byte} (h : s.env.nextRead = .bytes r0 r1 r2 r3) :
    memRead cfg a s = afterRead a r0 r1 r2 r3 s := by
  rw [memRead_answered cfg a s r0 r1 r2 r3 h, noteFrame_true]
  rfl

theorem memRead_eq_afterFailedRead {a : RegAddr} {s : State} (h : s.env.nextRead = .none) :
    memRead cfg a s = afterFailedRead (failedReadData s.env.draws) s := by
  rw [memRead_failed cfg a s h, noteFrame_false]
  rfl

/-- Settles O15: the frame step of RDREG is the read frame at its address, with either answer. -/
theorem rdregReads : Obligations.RdregReads := by
  intro a s hrun hph
  have hexec : exec (.rdreg a) s = .next (ended (memRead cfg a s)) := by
    rw [exec_of_frameAct rfl hrun hph, complete_eq_ended]
  constructor
  · intro r0 r1 r2 r3 hanswer
    rw [hexec, memRead_eq_afterRead hanswer]
  · intro hfailed
    rw [hexec, memRead_eq_afterFailedRead hfailed]

/-- Settles O16: the frame step of WRREG is the write frame, which asks nothing of the address. -/
theorem wrregWrites : Obligations.WrregWrites := by
  intro a v s hrun hph
  rw [exec_of_frameAct rfl hrun hph, complete_eq_ended, memWrite_eq_afterWrite]

/-- Settles O17: a frame row is its frame, with no condition on the sequencer and no completion. -/
theorem framesAlone : Obligations.FramesAlone := by
  refine ⟨?read, ?failedRead, ?write⟩
  case read =>
    intro a s r0 r1 r2 r3 hanswer
    rw [exec_frameRd, memRead_eq_afterRead hanswer]
  case failedRead =>
    intro a s hfailed
    rw [exec_frameRd, memRead_eq_afterFailedRead hfailed]
  case write =>
    intro a v s
    rw [exec_frameWr, memWrite_eq_afterWrite]

end Sys2Proof.Sequencer
end

section
/-! The channel-driver primitives (`41_channel_primitives.md` R141 to R162) and the ready wait under any configuration. -/

namespace Sys2Proof.Sequencer
open Sys2Proof Sys2Proof.Machine Sys2Proof.Config Sys2Proof.Statements

/-! ### Payloads and samples -/

/-- A value shifted up under another is their concatenation (`41_channel_primitives.md` R142). -/
theorem chword_eq (c : Cfg) (sel : BitVec 5) : chword c sel = c.chcode sel ++ c.testres := by
  rw [BitVec.append_def, BitVec.shiftLeftZeroExtend_eq, BitVec.setWidth'_eq]
  rfl

/-- A slice that holds the low part whole is the rest of the slice, taken of the high part, over it. -/
theorem lowSlice_append {w m : Nat} (x : BitVec w) (y : BitVec m) (n : Nat) :
    (x ++ y).extractLsb' 0 (n + m) = x.extractLsb' 0 n ++ y := by
  rw [Encoding.slice_split, BitVec.extractLsb'_append_eq_right, BitVec.extractLsb'_append_eq_of_le (by omega)]
  congr 2
  omega

/-- The sample is the signed value of the three last response bytes; the first is ignored (R159, R162). -/
theorem toInt_rawSample (r0 r1 r2 r3 : Byte) : (rawSample (r0 ++ r1 ++ r2 ++ r3)).toInt = (r1 ++ r2 ++ r3).toInt := by
  have hlow : (r0 ++ r1 ++ r2 ++ r3).extractLsb' 0 (8 + 8 + 8) = r1 ++ r2 ++ r3 := by
    rw [lowSlice_append, lowSlice_append]
    congr 2
    exact BitVec.extractLsb'_append_eq_right
  rw [rawSample, hlow, BitVec.toInt_signExtend_of_le (by decide)]

theorem readVoltPhase_answered {s : State} {r0 r1 r2 r3 : Byte} (h : s.env.nextRead = .bytes r0 r1 r2 r3) :
    readVoltPhase cfg s =
      { afterRead cfg.aData r0 r1 r2 r3 s with v := cfg.voltOfRaw (r1 ++ r2 ++ r3).toInt, vok := true } := by
  rw [readVoltPhase, memRead_eq_afterRead h, ← toInt_rawSample r0]
  rfl

theorem readVoltPhase_failed {s : State} (h : s.env.nextRead = .none) :
    readVoltPhase cfg s =
      { afterFailedRead (failedReadData s.env.draws) s with v := 0xBF800000#32, vok := false } := by
  rw [readVoltPhase, memRead_eq_afterFailedRead h]
  rfl

/-! ### The ready wait -/

section Wait
variable {c : Cfg} {s : State} (ready timeout : State → State)

/-- A sample that does not satisfy the wait and reaches the bound (R152). -/
theorem pollStep_of_bound (hnot : ¬ (s.env.nextLevel = .low ∧ (c.readySense = .level ∨ s.seenhi = true)))
    (hbound : tReady c = some (s.p + 1)) : pollStep c ready timeout s = timeout (flagTimeout (pollSample s)) := by
  rcases pollResult_cases c s with ⟨-, hready⟩ | ⟨hresult, -⟩ | ⟨-, hopen⟩
  · exact absurd hready hnot
  · rw [pollStep, hresult]
  · exact absurd hbound hopen

/-- A sample that neither satisfies the wait nor reaches the bound (R150). -/
theorem pollStep_of_open (hnot : ¬ (s.env.nextLevel = .low ∧ (c.readySense = .level ∨ s.seenhi = true)))
    (hopen : tReady c ≠ some (s.p + 1)) : pollStep c ready timeout s = pollSample s := by
  rcases pollResult_cases c s with ⟨-, hready⟩ | ⟨-, hbound⟩ | ⟨hresult, -⟩
  · exact absurd hready hnot
  · exact absurd hbound hopen
  · rw [pollStep, hresult]

end Wait

theorem waitrdyWith_of_running {s : State} (c : Cfg) (hrun : Running .waitrdy s) (hph : s.ph = 0) :
    waitrdyWith c s = .next (pollStep c complete complete s) := by
  rw [waitrdyWith, runOperation_of_running enterWait _ hrun, waitrdyPhase, if_pos hph]

/-! ### Many micro-steps -/

section Steps
variable {f : State → StepOutcome} {s t : State}

theorem steps_succ (h : f s = .next t) (m : Nat) : steps f (m + 1) s = steps f m t := by
  rw [steps, h]

theorem steps_add {a : Nat} (h : steps f a s = .next t) (b : Nat) : steps f (a + b) s = steps f b t := by
  induction a generalizing s with
  | zero =>
    cases h
    rw [Nat.zero_add]
  | succ a ih =>
    rw [Nat.succ_add]
    cases hf : f s with
    | next u => rw [steps_succ hf] at h ⊢; exact ih h
    | fault r => simp [steps, hf] at h
    | refused r => simp [steps, hf] at h

end Steps

/-! ### The statements -/

/-- Settles O18: the frame step of SELCH is the write of the channel word. -/
theorem selchWrites : Obligations.SelchWrites := by
  intro sel s hrun hph
  rw [exec_of_frameAct rfl hrun hph, complete_eq_ended, selectPhase, memWrite_eq_afterWrite, chword_eq]

/-- Settles O21: a satisfying sample is tested first, then the bound. -/
theorem waitrdyPolls : Obligations.WaitrdyPolls := by
  intro s hrun hph
  have hexec : exec .waitrdy s = .next (pollStep cfg complete complete s) := waitrdyWith_of_running cfg hrun hph
  rw [hexec]
  refine ⟨fun hready => ?ready, fun ⟨hnot, hbound⟩ => ?timeout, fun hnot hopen => ?stay⟩
  case ready =>
    rw [pollStep_of_sampleReady complete complete hready]
    rfl
  case timeout =>
    rw [pollStep_of_bound complete complete hnot hbound]
    rfl
  case stay =>
    rw [pollStep_of_open complete complete hnot fun hbound => hopen ⟨hnot, hbound⟩]
    rfl

/-- Settles O22: a high sample satisfies no wait, so the bound decides. -/
theorem boundedWaitTimesOut : Obligations.BoundedWaitTimesOut := by
  intro c s hrun hph hhigh hbound
  rw [waitrdyWith_of_running c hrun hph, pollStep_of_bound complete complete (by simp [hhigh]) hbound]
  rfl

/-- Settles O23: the frame step of RDVOLT is the data read and its decoding. -/
theorem rdvoltReads : Obligations.RdvoltReads := by
  intro s hrun hph
  rw [exec_of_frameAct rfl hrun hph, complete_eq_ended]
  constructor
  · intro r0 r1 r2 r3 hanswer
    rw [readVoltPhase_answered hanswer]
  · intro hfailed
    rw [readVoltPhase_failed hfailed]

/-- Settles O34, by induction on the number of samples: a high sample under no bound leaves the wait where it is. -/
theorem highLineHoldsWait : Obligations.HighLineHoldsWait := by
  intro c m s ls hunbounded hrun hph hready
  induction m generalizing s with
  | zero =>
    obtain ⟨-, hbusy, -⟩ := hrun
    exact ⟨s, rfl, hbusy, hph, rfl, rfl, hready, (List.append_nil _).symm, rfl⟩
  | succ m ih =>
    have hhigh : s.env.nextLevel = .high := by simp [Env.nextLevel, hready, List.replicate_succ]
    have hrest : (pollSample s).env.ready = List.replicate m .high ++ ls := by
      simp [Env.afterPoll, hready, List.replicate_succ]
    have hstep : waitrdyWith c s = .next (pollSample s) := by
      rw [waitrdyWith_of_running c hrun hph,
        pollStep_of_open complete complete (by simp [hhigh]) (by simp [hunbounded])]
    obtain ⟨t, hsteps, hbusy, hph', hop, hp, hready', htrace, hst⟩ := ih (pollSample s) hrun hph hrest
    refine ⟨t, (steps_succ hstep m).trans hsteps, hbusy, hph', hop, ?_, hready', ?_, hst⟩
    · rw [hp, pollSample_p]
      omega
    · rw [htrace, pollSample_trace, hhigh, List.append_assoc]
      rfl

end Sys2Proof.Sequencer
end

section
/-! The sign of a rounding, a quotient and a product (`00_scope.md` R14): the default scaling is odd
(`41_channel_primitives.md` R160, R163). -/

namespace Sys2Proof.Numbers
open Sys2Proof Sys2Proof.Machine Sys2Proof.Config

/-- What the negated pattern stands for. -/
def negValue : FloatValue → FloatValue
  | .nan => .nan
  | .inf neg => .inf (!neg)
  | .fin neg m e => .fin (!neg) m e

theorem f32Value_f32Neg (x : F32) : f32Value (f32Neg x) = negValue (f32Value x) := by
  simp only [f32Value, f32Sign_f32Neg, f32Exponent_f32Neg, f32Fraction_f32Neg]
  split
  · split <;> rfl
  · split <;> rfl

theorem f32Signed_not (neg : Bool) (p : Nat) : f32Signed (!neg) p = f32Neg (f32Signed neg p) := by
  cases neg
  · rfl
  · simp [f32Signed, f32Neg]

theorem f32Inf_not (neg : Bool) : f32Inf (!neg) = f32Neg (f32Inf neg) := f32Signed_not neg _

/-- Rounding to nearest, ties to even, treats both signs alike. -/
theorem roundF32_not (neg : Bool) (m : Nat) (e : Int) : roundF32 (!neg) m e = f32Neg (roundF32 neg m e) := by
  simp only [roundF32]
  split <;> exact f32Signed_not neg _

theorem f32OfInt_neg {i : Int} (hi : i ≠ 0) : f32OfInt (-i) = f32Neg (f32OfInt i) := by
  have hsign : decide (-i < 0) = !decide (i < 0) := by
    rw [← decide_not, decide_eq_decide]
    omega
  rw [f32OfInt, hsign, Int.natAbs_neg, roundF32_not]
  rfl

/-! ### No NaN arises -/

/-- A magnitude up to infinity's is no NaN. -/
theorem f32Value_f32Signed_ne_nan (neg : Bool) {p : Nat} (hp : p ≤ 0x7F800000) : f32Value (f32Signed neg p) ≠ .nan := by
  simp only [f32Value, f32Exponent_f32Signed neg (show p < 2 ^ 31 by omega), f32Fraction_f32Signed]
  split
  next htop =>
    rw [if_pos (by omega)]
    exact nofun
  next => split <;> exact nofun

theorem f32Value_roundF32_ne_nan (neg : Bool) (m : Nat) (e : Int) : f32Value (roundF32 neg m e) ≠ .nan := by
  rw [roundF32]
  split
  · exact f32Value_f32Signed_ne_nan neg (by decide)
  · exact f32Value_f32Signed_ne_nan neg (min_le_right ..)

section Finite
variable {x y : F32} {nb : Bool} {mb : Nat} {eb : Int}

/-! Division and multiplication by a finite number that is not zero. -/

theorem f32Div_f32Neg (hx : f32Value x ≠ .nan) (hy : f32Value y = .fin nb mb eb) (hmb : mb ≠ 0) :
    f32Div (f32Neg x) y = f32Neg (f32Div x y) := by
  rw [f32Div, f32Div, f32Value_f32Neg, hy]
  cases hvalue : f32Value x with
  | nan => exact absurd hvalue hx
  | inf na => simp [negValue, f32Inf_not]
  | fin na ma ea => simp [negValue, hmb, roundF32_not]

theorem f32Mul_f32Neg (hx : f32Value x ≠ .nan) (hy : f32Value y = .fin nb mb eb) (hmb : mb ≠ 0) :
    f32Mul (f32Neg x) y = f32Neg (f32Mul x y) := by
  rw [f32Mul, f32Mul, f32Value_f32Neg, hy]
  cases hvalue : f32Value x with
  | nan => exact absurd hvalue hx
  | inf na => simp [negValue, hmb, f32Inf_not]
  | fin na ma ea => simp [negValue, roundF32_not]

theorem f32Value_f32Div_ne_nan (hx : f32Value x ≠ .nan) (hy : f32Value y = .fin nb mb eb) (hmb : mb ≠ 0) :
    f32Value (f32Div x y) ≠ .nan := by
  rw [f32Div, hy]
  cases hvalue : f32Value x with
  | nan => exact absurd hvalue hx
  | inf na => exact f32Value_f32Signed_ne_nan _ le_rfl
  | fin na ma ea =>
    simp only [if_neg hmb]
    exact f32Value_roundF32_ne_nan _ _ _

end Finite

/-! ### The default scaling -/

theorem f32Value_divisor : f32Value (f32OfInt divisor) = .fin false 16777214 (-1) := by decide

theorem f32Value_fullScale : f32Value fullScale = .fin false 13107200 (-19) := by decide

/-- Settles O41: the conversion, the quotient and the product each pass the sign on, and no NaN arises. -/
theorem voltOfRawIsOdd : Obligations.VoltOfRawIsOdd := by
  intro raw hraw _ _
  have hvalue : f32Value (f32OfInt raw) ≠ .nan := f32Value_roundF32_ne_nan _ _ _
  have hquotient := f32Value_f32Div_ne_nan hvalue f32Value_divisor (by decide)
  calc voltOfRawDefault (-raw)
      = f32Mul (f32Div (f32Neg (f32OfInt raw)) (f32OfInt divisor)) fullScale := by rw [voltOfRawDefault, f32OfInt_neg hraw]
    _ = f32Mul (f32Neg (f32Div (f32OfInt raw) (f32OfInt divisor))) fullScale := by
        rw [f32Div_f32Neg hvalue f32Value_divisor (by decide)]
    _ = f32Neg (voltOfRawDefault raw) := f32Mul_f32Neg hquotient f32Value_fullScale (by decide)

/-- Settles O42: the positive codes and the most negative one by evaluation, the other two by oddness. -/
theorem voltOfRawStatedValues : Obligations.VoltOfRawStatedValues := by
  have hfull : voltOfRawDefault 8388607 = 0x41C80000#32 := by decide
  have hone : voltOfRawDefault 1 = 0x36480002#32 := by decide
  refine ⟨by decide, hfull, ?_, by decide, hone, ?_⟩
  · rw [voltOfRawIsOdd 8388607 (by decide) (by decide) (by decide), hfull]
    rfl
  · rw [voltOfRawIsOdd 1 (by decide) (by decide) (by decide), hone]
    rfl

end Sys2Proof.Numbers
end

section
/-! The phases of a composite operation (`42_acquisition.md` R191), each in the words of the statements. -/

namespace Sys2Proof.Sequencer
open Sys2Proof Sys2Proof.Machine Sys2Proof.Config Sys2Proof.Safety Sys2Proof.Statements

/-! ### One step of each phase -/

section Phase
variable {i : Instr} {q : Acq} {s : State} (hq : compositeOf i = some q) (hrun : Running i s)
include hq hrun

theorem exec_eq_acqPhase : exec i s = acqPhase cfg q s :=
  (exec_composite hq s).trans (runOperation_of_running id _ hrun)

theorem exec_at_select (hph : s.ph = 0) :
    exec i s = .next (goto 1 (clearAverage q (selectPhase cfg (acqSelector q s) s))) := by
  rw [exec_eq_acqPhase hq hrun, acqPhase, hph]

theorem exec_at_start (hph : s.ph = 1) : exec i s = .next (goto 2 (enterWait (startPhase cfg s.rate s))) := by
  rw [exec_eq_acqPhase hq hrun, acqPhase, hph]

theorem exec_at_wait (hph : s.ph = 2) : exec i s = .next (pollStep cfg (goto 3) (goto 5) s) := by
  rw [exec_eq_acqPhase hq hrun, acqPhase, hph]

theorem exec_at_stop (hph : s.ph = 3) : exec i s = .next (goto 4 (stopPhase cfg s)) := by
  rw [exec_eq_acqPhase hq hrun, acqPhase, hph]

theorem exec_at_read (hph : s.ph = 4) : exec i s = .next (endOfSample q (readVoltPhase cfg s)) := by
  rw [exec_eq_acqPhase hq hrun, acqPhase, hph]

theorem exec_at_giveUp (hph : s.ph = 5) : exec i s = .next (endOfSample q (takeSentinel (stopPhase cfg s))) := by
  rw [exec_eq_acqPhase hq hrun, acqPhase, hph]

theorem exec_at_finish (havg : q.averaged = true) (hph : s.ph = 6) :
    exec i s = .next (endOfChannel q (takeAverage q s)) := by
  rw [exec_eq_acqPhase hq hrun, acqPhase, hph]
  exact if_pos havg

end Phase

/-! ### The ends of a channel and of a sample in the words of the statements -/

theorem endOfChannel_eq_channelEnd (q : Acq) (s : State) : endOfChannel q s = channelEnd q s := rfl

theorem endOfSample_eq_sampleEnd (q : Acq) (s : State) : endOfSample q s = sampleEnd q s := by
  rw [endOfSample, sampleEnd, endOfChannel_eq_channelEnd]
  cases hb : q.batch <;> simp [nextSample, accumulate, setAccumulator, accumulator, hb]

/-! ### The statements -/

/-- Settles O24: the select frame, and in an averaged operation the clearing of the accumulator it uses. -/
theorem selectPhaseStep : Obligations.SelectPhaseStep := by
  intro i q s hq hrun hph
  have hchannel : acqSelector q s = channelOf q s := rfl
  rw [exec_at_select hq hrun hph, selectPhase, memWrite_eq_afterWrite, chword_eq, hchannel]
  rcases clearAverage_cases q (afterWrite cfg.aChctrl (cfg.chcode (channelOf q s) ++ cfg.testres) s) with
    ⟨havg, heq⟩ | ⟨havg, heq⟩ <;> rw [heq, havg]
  · cases hb : q.batch <;> simp [setAccumulator, hb, openAverage, goto, afterWrite]
  · rfl

/-- Settles O25: the start frame at the rate of `RATE`. -/
theorem startPhaseStep : Obligations.StartPhaseStep := by
  intro i q s hq hrun hph
  rw [exec_at_start hq hrun hph, startPhase, memWrite_eq_afterWrite, startWord_eq]
  rfl

/-- Settles O26: a satisfying sample is tested first, then the bound. -/
theorem waitPhaseStep : Obligations.WaitPhaseStep := by
  intro i q s hq hrun hph
  rw [exec_at_wait hq hrun hph]
  refine ⟨fun hready => ?ready, fun ⟨hnot, hbound⟩ => ?timeout, fun hnot hopen => ?stay⟩
  case ready =>
    rw [pollStep_of_sampleReady (goto 3) (goto 5) hready]
    rfl
  case timeout =>
    rw [pollStep_of_bound (goto 3) (goto 5) hnot hbound]
    rfl
  case stay =>
    rw [pollStep_of_open (goto 3) (goto 5) hnot fun hbound => hopen ⟨hnot, hbound⟩]
    rfl

/-- Settles O27: the stop frame. -/
theorem stopPhaseStep : Obligations.StopPhaseStep := by
  intro i q s hq hrun hph
  rw [exec_at_stop hq hrun hph, stopPhase, memWrite_eq_afterWrite]
  rfl

/-- Settles O28: the data read as RDVOLT does it, and then the end of the sample. -/
theorem readPhaseStep : Obligations.ReadPhaseStep := by
  intro i q s hq hrun hph
  rw [exec_at_read hq hrun hph, endOfSample_eq_sampleEnd]
  constructor
  · intro r0 r1 r2 r3 hanswer
    rw [readVoltPhase_answered hanswer]
  · intro hfailed
    rw [readVoltPhase_failed hfailed]

/-! ### A started conversion is stopped (`41_channel_primitives.md` R147) -/

section Conv
variable {i : Instr} {q : Acq} {s t : State}

theorem endOfChannel_conv (q : Acq) (s : State) : (endOfChannel q s).conv = s.conv := by
  rcases endOfChannel_cases q s with ⟨-, heq⟩ | ⟨-, -, heq⟩ | ⟨-, -, heq⟩ <;> simp [heq]

theorem endOfSample_conv (q : Acq) (s : State) : (endOfSample q s).conv = s.conv := by
  rcases endOfSample_cases q s with ⟨-, heq⟩ | ⟨-, heq⟩
  · simp [heq]
  · rw [heq, endOfChannel_conv]

theorem compositePhase_of_runInv (hq : compositeOf i = some q) (hrun : Running i s) (hinv : RunInv s) :
    CompositePhase q s := by
  have hlatched := latchedInstr_of_running (isLatched_of_composite hq) hrun
  obtain ⟨-, hbusy, -⟩ := hrun
  obtain ⟨j, hj, hlegal⟩ := hinv.running hbusy
  cases hlatched.symm.trans hj
  exact (phaseLegal_composite hq s).1 hlegal

/-- From the start phase's end to the stop phase's, `CONV` is set (R170). -/
theorem conv_of_started (hq : compositeOf i = some q) (hrun : Running i s) (hinv : RunInv s) (hph : s.ph ∈ [2, 3, 5]) :
    s.conv = true := by
  have hphase := compositePhase_of_runInv hq hrun hinv
  have hcycle := inCycle_of_runInv hrun hinv hphase
  simp only [List.mem_cons, List.not_mem_nil, or_false] at hph
  rcases hph with hwait | hstop | hgiveUp
  · obtain ⟨-, hconv, -⟩ := (hcycle.at_wait hwait).1 hphase
    exact hconv
  · obtain ⟨-, hconv⟩ := (hcycle.at_stop hstop).1 hphase
    exact hconv
  · obtain ⟨-, hconv, -⟩ := (hcycle.at_giveUp hgiveUp).1 hphase
    exact hconv

/-- Of the rows of the phase table, the wait stays among phases 2, 3 and 5, and both other phases issue the stop frame. -/
theorem stopped_of_acqStep (hph : s.ph ∈ [2, 3, 5]) (hstep : AcqStep q s t) :
    t.conv = false ∨ (t.op = s.op ∧ t.busy = s.busy ∧ t.conv = s.conv ∧ t.ph ∈ [2, 3, 5]) := by
  cases hstep with
  | select h => exact absurd hph (by simp [h])
  | start h => exact absurd hph (by simp [h])
  | stay h => exact .inr ⟨rfl, rfl, rfl, by simp [h]⟩
  | ready => exact .inr ⟨rfl, rfl, rfl, by simp⟩
  | timeout => exact .inr ⟨rfl, rfl, rfl, by simp⟩
  | stop => exact .inl rfl
  | read h => exact absurd hph (by simp [h])
  | giveUp => exact .inl (endOfSample_conv q _)
  | finish h => exact absurd hph (by simp [h])

end Conv

/-- Settles O54: the step is a row of the phase table, and the run invariant says that `CONV` is set before it. -/
theorem startedConversionIsStopped : Obligations.StartedConversionIsStopped := by
  intro i q s t hq hrun hinv hph hstep
  have hconv : s.conv = true := conv_of_started hq hrun hinv hph
  rw [step_of_running (isLatched_of_composite hq) hrun, exec_eq_acqPhase hq hrun] at hstep
  obtain ⟨hw, hbusy, hop⟩ := hrun
  rcases stopped_of_acqStep hph (acqPhase_acqStep hstep) with hstopped | ⟨hop', hbusy', hconv', hph'⟩
  · exact .inl hstopped
  · exact .inr ⟨⟨hw, hbusy'.trans hbusy, hop'.trans hop⟩, hconv'.trans hconv, hph'⟩

end Sys2Proof.Sequencer
end

section
/-! The run of a composite operation under a ready line that reads high and then low in each wait (`42_acquisition.md` R170,
R176, R183, R188, R191): a cycle, the cycles of a channel, the channels, each a segment of the run with the frames and ready
samples it uses. -/

namespace Sys2Proof.Sequencer
open Sys2Proof Sys2Proof.Machine Sys2Proof.Config Sys2Proof.Statements

/-! ### Segments of a run -/

/-- `exec i` leads from `s` to `t` over `w` write frames and, unless `T_READY` is 1, when a wait ends at its first sample, over
`r` read frames and `p` ready samples. -/
structure Segment (i : Instr) (w r p : Nat) (s t : State) : Prop where
  reaches : ∃ k, steps (exec i) k s = .next t
  writes : t.env.writes = s.env.writes.drop w
  reads : tReady cfg ≠ some 1 → t.env.reads = s.env.reads.drop r
  ready : tReady cfg ≠ some 1 → t.env.ready = s.env.ready.drop p

section Segments
variable {i : Instr} {w r p w' r' p' : Nat} {s t u : State}

theorem Segment.trans (hst : Segment i w r p s t) (htu : Segment i w' r' p' t u) :
    Segment i (w + w') (r + r') (p + p') s u where
  reaches := by
    obtain ⟨a, ha⟩ := hst.reaches
    obtain ⟨b, hb⟩ := htu.reaches
    exact ⟨a + b, (steps_add ha b).trans hb⟩
  writes := by rw [htu.writes, hst.writes, List.drop_drop]
  reads h := by rw [htu.reads h, hst.reads h, List.drop_drop]
  ready h := by rw [htu.ready h, hst.ready h, List.drop_drop]

/-- One step is a segment with what it takes from the environment. -/
theorem Segment.single (hstep : exec i s = .next t) (hw : t.env.writes = s.env.writes.drop w)
    (hr : tReady cfg ≠ some 1 → t.env.reads = s.env.reads.drop r)
    (hp : tReady cfg ≠ some 1 → t.env.ready = s.env.ready.drop p) : Segment i w r p s t :=
  ⟨⟨1, steps_succ hstep 0⟩, hw, hr, hp⟩

theorem Segment.ofSilent (hstep : exec i s = .next t) (henv : t.env = s.env) : Segment i 0 0 0 s t :=
  .single hstep (by rw [henv]; rfl) (fun _ => by rw [henv]; rfl) fun _ => by rw [henv]; rfl

theorem Segment.ofWrite (hstep : exec i s = .next t) (henv : t.env = s.env.afterWrite) : Segment i 1 0 0 s t :=
  .single hstep (by rw [henv, List.drop_one]; rfl) (fun _ => by rw [henv]; rfl) fun _ => by rw [henv]; rfl

theorem Segment.ofRead (hstep : exec i s = .next t) (henv : t.env = s.env.afterRead) : Segment i 0 1 0 s t :=
  .single hstep (by rw [henv]; rfl) (fun _ => by rw [henv, List.drop_one]; rfl) fun _ => by rw [henv]; rfl

theorem Segment.ofPoll (hstep : exec i s = .next t) (henv : t.env = s.env.afterPoll) : Segment i 0 0 1 s t :=
  .single hstep (by rw [henv]; rfl) (fun _ => by rw [henv]; rfl) fun _ => by rw [henv, List.drop_one]; rfl

/-- Where `T_READY` is 1 a segment says nothing of the data reads and the ready samples. -/
theorem Segment.ofTReadyOne (h : Segment i w r p s t) (hone : tReady cfg = some 1) : Segment i w r' p' s t :=
  ⟨h.reaches, h.writes, fun hne => absurd hone hne, fun hne => absurd hone hne⟩

end Segments

/-! ### The script of the ready line -/

/-- Unless `T_READY` is 1, the next `m` waits see the line high and then low. -/
def HighThenLow (m : Nat) (s : State) : Prop :=
  tReady cfg ≠ some 1 → (List.replicate m [Level.high, Level.low]).flatten <+: s.env.ready

section Script
variable {i : Instr} {w r m n : Nat} {s t : State}

theorem length_highThenLow (m : Nat) : (List.replicate m [Level.high, Level.low]).flatten.length = 2 * m := by
  simp [Nat.mul_comm]

theorem HighThenLow.take (h : HighThenLow (m + n) s) : HighThenLow m s := by
  intro hne
  refine List.IsPrefix.trans ?_ (h hne)
  rw [List.replicate_add, List.flatten_append]
  exact ⟨_, rfl⟩

/-- A segment without ready samples leaves the script as it is. -/
theorem HighThenLow.kept (h : HighThenLow n s) (hseg : Segment i w r 0 s t) : HighThenLow n t := by
  intro hne
  rw [hseg.ready hne, List.drop_zero]
  exact h hne

/-- After a segment of `m` cycles the script of the later cycles is left. -/
theorem HighThenLow.after (h : HighThenLow (m + n) s) (hseg : Segment i w r (2 * m) s t) : HighThenLow n t := by
  intro hne
  obtain ⟨ls, hls⟩ := h hne
  rw [hseg.ready hne, ← hls, List.replicate_add, List.flatten_append, List.append_assoc, ← length_highThenLow m,
    List.drop_left]
  exact ⟨_, rfl⟩

end Script

/-! ### One cycle -/

/-- `t` executes the operation of `s` at the same sample of the same channel. -/
structure SameSample (s t : State) : Prop where
  op : t.op = s.op := by simp
  busy : t.busy = s.busy := by simp
  channel : t.k = s.k := by simp
  samples : t.samples = s.samples := by simp

section Cycle
variable {i : Instr} {q : Acq} {s t u : State}

theorem SameSample.trans (hst : SameSample s t) (htu : SameSample t u) : SameSample s u :=
  ⟨htu.op.trans hst.op, htu.busy.trans hst.busy, htu.channel.trans hst.channel, htu.samples.trans hst.samples⟩

theorem SameSample.running (h : SameSample s t) (hrun : Running i s) : Running i t := by
  obtain ⟨hw, hbusy, hop⟩ := hrun
  exact ⟨hw, h.busy.trans hbusy, h.op.trans hop⟩

theorem endOfChannel_env (q : Acq) (s : State) : (endOfChannel q s).env = s.env := by
  rcases endOfChannel_cases q s with ⟨-, heq⟩ | ⟨-, -, heq⟩ | ⟨-, -, heq⟩ <;> simp [heq]

theorem endOfSample_env (q : Acq) (s : State) : (endOfSample q s).env = s.env := by
  rcases endOfSample_cases q s with ⟨-, heq⟩ | ⟨-, heq⟩
  · simp [heq]
  · rw [heq, endOfChannel_env]

theorem clearAverage_env (q : Acq) (s : State) : (clearAverage q s).env = s.env := by
  rcases clearAverage_cases q s with ⟨-, heq⟩ | ⟨-, heq⟩ <;> simp [heq]

theorem clearAverage_k (q : Acq) (s : State) : (clearAverage q s).k = s.k := by
  rcases clearAverage_cases q s with ⟨-, heq⟩ | ⟨-, heq⟩ <;> simp [heq]

theorem clearAverage_running (q : Acq) (h : Running i s) : Running i (clearAverage q s) := by
  rcases clearAverage_cases q s with ⟨-, heq⟩ | ⟨-, heq⟩ <;> simpa [heq, Running] using h

/-- The wait under a bound of one sample ends at its first sample, satisfied or timed out. -/
theorem wait_of_tReady_one (hq : compositeOf i = some q) (hrun : Running i s) (hph : s.ph = 2) (hp : s.p = 0)
    (hone : tReady cfg = some 1) :
    ∃ t, Segment i 0 0 2 s t ∧ SameSample s t ∧ (t.ph = 3 ∨ (t.ph = 5 ∧ tReady cfg = some 1)) := by
  have hstep := exec_at_wait hq hrun hph
  rcases pollStep_outcomes cfg (goto 3) (goto 5) s with ⟨hopen, -⟩ | heq | ⟨-, heq⟩
  · exact absurd (hp ▸ hone) hopen
  · rw [heq] at hstep
    exact ⟨_, (Segment.ofPoll hstep rfl).ofTReadyOne hone, {}, .inl rfl⟩
  · rw [heq] at hstep
    exact ⟨_, (Segment.ofPoll hstep rfl).ofTReadyOne hone, {}, .inr ⟨rfl, hone⟩⟩

/-- The wait under any other bound: the high sample leaves it open, the low one satisfies it under either sense. -/
theorem wait_of_highThenLow (hq : compositeOf i = some q) (hrun : Running i s) (hph : s.ph = 2) (hp : s.p = 0)
    (hscript : HighThenLow 1 s) (hne : tReady cfg ≠ some 1) :
    ∃ t, Segment i 0 0 2 s t ∧ SameSample s t ∧ t.ph = 3 := by
  obtain ⟨ls, hls⟩ := hscript hne
  have hready : s.env.ready = .high :: .low :: ls := hls.symm
  have hhigh : s.env.nextLevel = .high := by rw [Env.nextLevel, hready]; rfl
  have hlow : (pollSample s).env.nextLevel = .low := by
    rw [pollSample_env, Env.nextLevel, Env.afterPoll, hready]
    rfl
  have hfirst : exec i s = .next (pollSample s) := by
    rw [exec_at_wait hq hrun hph, pollStep_of_open (goto 3) (goto 5) (by simp [hhigh]) (by rwa [hp])]
  have hsatisfied : SampleReady (pollSample s) := ⟨hlow, .inr (by simp [hhigh])⟩
  have hsecond : exec i (pollSample s) = .next (goto 3 (pollSample (pollSample s))) := by
    have hsame : SameSample s (pollSample s) := {}
    rw [exec_at_wait hq (hsame.running hrun) hph, pollStep_of_sampleReady (goto 3) (goto 5) hsatisfied]
  exact ⟨_, (Segment.ofPoll hfirst rfl).trans (.ofPoll hsecond rfl), {}, rfl⟩

theorem wait_ends (hq : compositeOf i = some q) (hrun : Running i s) (hph : s.ph = 2) (hp : s.p = 0)
    (hscript : HighThenLow 1 s) :
    ∃ t, Segment i 0 0 2 s t ∧ SameSample s t ∧ (t.ph = 3 ∨ (t.ph = 5 ∧ tReady cfg = some 1)) := by
  by_cases hone : tReady cfg = some 1
  · exact wait_of_tReady_one hq hrun hph hp hone
  · obtain ⟨t, hseg, hsame, hph'⟩ := wait_of_highThenLow hq hrun hph hp hscript hone
    exact ⟨t, hseg, hsame, .inl hph'⟩

/-- After the wait the conversion is stopped, and the sample is read or given up. -/
theorem sample_ends (hq : compositeOf i = some q) (hrun : Running i s)
    (hph : s.ph = 3 ∨ (s.ph = 5 ∧ tReady cfg = some 1)) :
    ∃ x, Segment i 1 1 0 s (endOfSample q x) ∧ SameSample s x ∧ x.conv = false := by
  rcases hph with hph | ⟨hph, hone⟩
  · have hstopped : SameSample s (goto 4 (stopPhase cfg s)) := {}
    have hstop : Segment i 1 0 0 s (goto 4 (stopPhase cfg s)) := .ofWrite (exec_at_stop hq hrun hph) (by simp)
    have hread := Segment.ofRead (exec_at_read hq (hstopped.running hrun) rfl) (endOfSample_env q _)
    exact ⟨_, hstop.trans hread, {}, by simp⟩
  · have hstop := Segment.ofWrite (exec_at_giveUp hq hrun hph) (endOfSample_env q _)
    exact ⟨_, hstop.ofTReadyOne hone, {}, by simp⟩

/-- A cycle, from the start phase to the end of the sample (R170): two write frames, a data read, two ready samples. -/
theorem cycle_ends (hq : compositeOf i = some q) (hrun : Running i s) (hph : s.ph = 1) (hscript : HighThenLow 1 s) :
    ∃ x, Segment i 2 1 2 s (endOfSample q x) ∧ SameSample s x ∧ x.conv = false := by
  have hstart : Segment i 1 0 0 s (goto 2 (enterWait (startPhase cfg s.rate s))) :=
    .ofWrite (exec_at_start hq hrun hph) (by simp)
  have hsame : SameSample s (goto 2 (enterWait (startPhase cfg s.rate s))) := {}
  obtain ⟨t, hwait, hsame', hph'⟩ := wait_ends hq (hsame.running hrun) rfl rfl (hscript.kept hstart)
  obtain ⟨x, hend, hsame'', hconv⟩ := sample_ends hq ((hsame.trans hsame').running hrun) hph'
  exact ⟨x, (hstart.trans hwait).trans hend, (hsame.trans hsame').trans hsame'', hconv⟩

end Cycle

/-! ### One channel -/

/-- The cycles of one channel. -/
def channelCycles (q : Acq) : Nat := if q.averaged then q.n.toNat else 1

theorem cycles_eq (q : Acq) : cycles q = (if q.batch then 6 else 1) * channelCycles q := rfl

section Channel
variable {i : Instr} {q : Acq} {s : State}

/-- A cycle of an averaged operation counts its sample, and the start phase or the finish phase follows (R176). -/
theorem averaged_cycle_ends (hq : compositeOf i = some q) (havg : q.averaged = true) (hrun : Running i s)
    (hph : s.ph = 1) (hlt : s.samples.toNat < q.n.toNat) (hscript : HighThenLow 1 s) :
    ∃ t, Segment i 2 1 2 s t ∧ Running i t ∧ t.k = s.k ∧ t.conv = false ∧ t.samples.toNat = s.samples.toNat + 1 ∧
      t.ph = if s.samples.toNat + 1 < q.n.toNat then 1 else 6 := by
  obtain ⟨x, hcycle, hsame, hconv⟩ := cycle_ends hq hrun hph hscript
  have heq : endOfSample q x = nextSample q (accumulate q x) := if_pos havg
  have hsucc : (s.samples + 1#16).toNat = s.samples.toNat + 1 := toNat_succ_of_lt hlt
  refine ⟨_, heq ▸ hcycle, ?_, ?_, ?_, ?_, ?_⟩
  · simpa [Running] using hsame.running hrun
  · simpa using hsame.channel
  · simpa using hconv
  · simpa [hsame.samples] using hsucc
  · simp [hsame.samples, BitVec.lt_def, hsucc]

/-- The cycles of an averaged channel, by induction on those that are left after the next one. -/
theorem averaged_channel_ends (hq : compositeOf i = some q) (havg : q.averaged = true) (d : Nat) (hrun : Running i s)
    (hph : s.ph = 1) (hleft : s.samples.toNat + (1 + d) = q.n.toNat) (hscript : HighThenLow (1 + d) s) :
    ∃ x, Segment i (2 * (1 + d)) (1 + d) (2 * (1 + d)) s (endOfChannel q x) ∧ Running i x ∧ x.k = s.k ∧
      x.conv = false := by
  induction d generalizing s with
  | zero =>
    obtain ⟨t, hcycle, hrun', hk, hconv, -, hph'⟩ := averaged_cycle_ends hq havg hrun hph (by omega) hscript
    rw [if_neg (by omega)] at hph'
    have hfinish := Segment.ofSilent (exec_at_finish hq hrun' havg hph') (endOfChannel_env q _)
    exact ⟨takeAverage q t, hcycle.trans hfinish, hrun', hk, hconv⟩
  | succ d ih =>
    obtain ⟨t, hcycle, hrun', hk, hconv, hsamples, hph'⟩ :=
      averaged_cycle_ends hq havg hrun hph (by omega) hscript.take
    rw [if_pos (by omega)] at hph'
    have hrest := hscript.after hcycle
    rw [Nat.add_comm d 1] at hrest
    obtain ⟨x, hend, hrunx, hkx, hconvx⟩ := ih hrun' hph' (by omega) hrest
    refine ⟨x, ?_, hrunx, hkx.trans hk, hconvx⟩
    convert hcycle.trans hend using 1 <;> omega

/-- The select phase opens the channel; an averaged operation starts at its first sample (R177). -/
theorem select_ends (hq : compositeOf i = some q) (hrun : Running i s) (hph : s.ph = 0) :
    ∃ t, Segment i 1 0 0 s t ∧ Running i t ∧ t.ph = 1 ∧ t.k = s.k ∧ (q.averaged = true → t.samples = 0#16) := by
  refine ⟨_, .ofWrite (exec_at_select hq hrun hph) (clearAverage_env q _), clearAverage_running q hrun, rfl,
    clearAverage_k q _, fun havg => ?_⟩
  rw [goto_samples, clearAverage, if_pos havg]

/-- A channel, from its select phase to its end: one write frame and its cycles. -/
theorem channel_ends (hq : compositeOf i = some q) (hrun : Running i s) (hph : s.ph = 0)
    (hscript : HighThenLow (channelCycles q) s) :
    ∃ x, Segment i (1 + 2 * channelCycles q) (channelCycles q) (2 * channelCycles q) s (endOfChannel q x) ∧
      Running i x ∧ x.k = s.k ∧ x.conv = false := by
  obtain ⟨t, hselect, hrun', hph', hk, hsamples⟩ := select_ends hq hrun hph
  have hscript' : HighThenLow (channelCycles q) t := hscript.kept hselect
  cases havg : q.averaged with
  | false =>
    have hone : channelCycles q = 1 := by simp [channelCycles, havg]
    rw [hone] at hscript' ⊢
    obtain ⟨x, hcycle, hsame, hconv⟩ := cycle_ends hq hrun' hph' hscript'
    have heq : endOfSample q x = endOfChannel q x := by simp [endOfSample, havg]
    rw [heq] at hcycle
    exact ⟨x, hselect.trans hcycle, hsame.running hrun', hsame.channel.trans hk, hconv⟩
  | true =>
    have hcount : channelCycles q = q.n.toNat := by simp [channelCycles, havg]
    obtain ⟨hw, -, -⟩ := hrun
    obtain ⟨d, hd⟩ : ∃ d, q.n.toNat = 1 + d := Nat.exists_eq_add_of_le (count_pos hq hw havg)
    rw [hcount, hd] at hscript' ⊢
    have hfirst : t.samples.toNat + (1 + d) = q.n.toNat := by rw [hsamples havg, hd]; exact Nat.zero_add _
    obtain ⟨x, hcycles, hrunx, hkx, hconv⟩ := averaged_channel_ends hq havg d hrun' hph' hfirst hscript'
    refine ⟨x, ?_, hrunx, hkx.trans hk, hconv⟩
    convert hselect.trans hcycles using 1 <;> omega

/-! ### The whole run -/

theorem endOfChannel_single (hb : q.batch = false) (s : State) : endOfChannel q s = complete s := by
  simp [endOfChannel, hb]

theorem endOfChannel_next (hb : q.batch = true) (hk : s.k.val < 5) : endOfChannel q s = nextChannel (storeChannel s) := by
  simp [endOfChannel, hb, hk]

theorem endOfChannel_last (hb : q.batch = true) (hk : ¬ s.k.val < 5) : endOfChannel q s = complete (storeChannel s) := by
  simp [endOfChannel, hb, hk]

/-- The channels of a batch, by induction on those that are left after the next one (R183, R188). -/
theorem batch_ends (hq : compositeOf i = some q) (hb : q.batch = true) (d : Nat) (hrun : Running i s) (hph : s.ph = 0)
    (hleft : s.k.val + d = 5) (hscript : HighThenLow ((d + 1) * channelCycles q) s) :
    ∃ t, Segment i ((d + 1) * (1 + 2 * channelCycles q)) ((d + 1) * channelCycles q) (2 * ((d + 1) * channelCycles q)) s t ∧
      t.busy = false ∧ t.conv = false := by
  induction d generalizing s with
  | zero =>
    rw [Nat.zero_add, Nat.one_mul] at hscript
    obtain ⟨x, hchannel, -, hk, hconv⟩ := channel_ends hq hrun hph hscript
    rw [endOfChannel_last hb (by rw [hk]; omega)] at hchannel
    refine ⟨complete (storeChannel x), ?_, rfl, hconv⟩
    convert hchannel using 1 <;> ring
  | succ d ih =>
    rw [Nat.succ_mul, Nat.add_comm] at hscript
    obtain ⟨x, hchannel, hrunx, hk, hconv⟩ := channel_ends hq hrun hph hscript.take
    have hlt : x.k.val < 5 := by rw [hk]; omega
    have hnext : (x.k + 1).val + d = 5 := by rw [Fin.val_add_one_of_lt hlt, hk]; omega
    rw [endOfChannel_next hb hlt] at hchannel
    obtain ⟨t, hrest, hend⟩ := ih (s := nextChannel (storeChannel x)) hrunx rfl hnext (hscript.after hchannel)
    refine ⟨t, ?_, hend⟩
    convert hchannel.trans hrest using 1 <;> ring

/-- A composite operation from its first select phase to its completion. -/
theorem composite_ends (hq : compositeOf i = some q) (hrun : Running i s) (hph : s.ph = 0) (hk : s.k = 0)
    (hscript : HighThenLow (cycles q) s) :
    ∃ t, Segment i ((if q.batch then 6 else 1) + 2 * cycles q) (cycles q) (2 * cycles q) s t ∧
      t.busy = false ∧ t.conv = false := by
  cases hb : q.batch with
  | false =>
    have hcycles : cycles q = channelCycles q := by simp [cycles_eq, hb]
    rw [hcycles] at hscript ⊢
    obtain ⟨x, hchannel, -, -, hconv⟩ := channel_ends hq hrun hph hscript
    rw [endOfChannel_single hb] at hchannel
    exact ⟨_, hchannel, rfl, hconv⟩
  | true =>
    have hcycles : cycles q = (5 + 1) * channelCycles q := by simp [cycles_eq, hb]
    rw [hcycles] at hscript ⊢
    obtain ⟨t, hseg, hend⟩ := batch_ends hq hb 5 hrun hph (by rw [hk]; rfl) hscript
    refine ⟨t, ?_, hend⟩
    convert hseg using 1
    rw [if_pos rfl]
    ring

end Channel

/-- Settles O33: acceptance, then the operation's channels with their cycles. -/
theorem compositesRunToCompletion : Obligations.CompositesRunToCompletion := by
  intro i q s ls hq hw hidle hready
  have haccept : exec i s = .next (latchCommand i s) := by
    rw [exec_composite hq, runOperation_of_idle id _ hw hidle, id]
  have hscript : HighThenLow (cycles q) (latchCommand i s) := fun _ => ⟨ls, hready.symm⟩
  obtain ⟨t, hseg, hbusy, hconv⟩ := composite_ends hq ⟨hw, rfl, rfl⟩ rfl rfl hscript
  obtain ⟨k, hk⟩ := hseg.reaches
  refine ⟨k, t, (steps_succ haccept k).trans hk, hbusy, hconv, hseg.writes, fun hne => ⟨hseg.reads hne, ?_⟩⟩
  rw [hseg.ready hne, latchCommand_env, hready, ← length_highThenLow, List.drop_left]

end Sys2Proof.Sequencer
end

section
/-! The arithmetic of averages (`42_acquisition.md` R177, R178, R180): a rounding depends on the number alone and not on the
units it is written in, and a number that binary32 holds is rounded to its own pattern. -/

namespace Sys2Proof.Numbers
open Sys2Proof Sys2Proof.Machine Sys2Proof.Config Sys2Proof.Statements

/-! ### The number alone decides the rounding -/

theorem roundShift_zero (m : Nat) : roundShift m 0 = m := by
  simp [roundShift_eq, Nat.mod_one]

/-- Trailing zeros that are shifted out change nothing. -/
theorem roundShift_mul_two_pow (m k j : Nat) : roundShift (m * 2 ^ j) (k + j) = roundShift m k := by
  have hpos : 0 < 2 ^ j := Nat.two_pow_pos j
  have htwice : 2 * (m % 2 ^ k * 2 ^ j) = 2 * (m % 2 ^ k) * 2 ^ j := (Nat.mul_assoc ..).symm
  simp only [roundShift_eq, Nat.pow_add, Nat.mul_mod_mul_right, Nat.mul_div_mul_right _ _ hpos, htwice,
    Nat.mul_lt_mul_right hpos, Nat.mul_left_inj hpos.ne']

theorem log2_mul_two_pow {m : Nat} (hpos : 0 < m) (j : Nat) : (m * 2 ^ j).log2 = m.log2 + j := by
  induction j with
  | zero => rw [Nat.pow_zero, Nat.mul_one, Nat.add_zero]
  | succ j ih =>
    have hne : m * 2 ^ j ≠ 0 := (Nat.mul_pos hpos (Nat.two_pow_pos j)).ne'
    rw [Nat.pow_succ', Nat.mul_left_comm, Nat.log2_two_mul hne, ih, Nat.add_assoc]

section Scale
variable {m : Nat} (hpos : 0 < m) (e : Int) (j : Nat)
include hpos

theorem lastPlace_mul_two_pow : lastPlace (m * 2 ^ j) (e - j) = lastPlace m e := by
  rw [lastPlace, lastPlace, log2_mul_two_pow hpos]
  omega

/-- A number in other units has the same last places: it is shifted up, or only zeros are shifted out, or the same remainder
decides. -/
theorem roundUnits_mul_two_pow : roundUnits (m * 2 ^ j) (e - j) = roundUnits m e := by
  rw [roundUnits, roundUnits, lastPlace_mul_two_pow hpos]
  by_cases hup : lastPlace m e ≤ e
  · rw [if_pos hup, Nat.shiftLeft_eq, Nat.shiftLeft_eq]
    by_cases hall : lastPlace m e ≤ e - j
    · rw [if_pos hall, Nat.mul_assoc, ← Nat.pow_add]
      congr 2
      omega
    · obtain ⟨k, hk⟩ : ∃ k, (lastPlace m e - (e - j)).toNat = 0 + k := ⟨_, (Nat.zero_add _).symm⟩
      have hsplit : j = (e - lastPlace m e).toNat + k := by omega
      rw [if_neg hall, hk]
      conv_lhs => rw [hsplit, Nat.pow_add, ← Nat.mul_assoc, roundShift_mul_two_pow, roundShift_zero]
  · have hdrop : (lastPlace m e - (e - j)).toNat = (lastPlace m e - e).toNat + j := by omega
    rw [if_neg hup, if_neg (by omega), hdrop, roundShift_mul_two_pow]

theorem roundF32_mul_two_pow (neg : Bool) : roundF32 neg (m * 2 ^ j) (e - j) = roundF32 neg m e := by
  have hne : m * 2 ^ j ≠ 0 := (Nat.mul_pos hpos (Nat.two_pow_pos j)).ne'
  rw [roundF32, roundF32, if_neg hne, if_neg hpos.ne', roundMagnitude, roundMagnitude, lastPlace_mul_two_pow hpos,
    roundUnits_mul_two_pow hpos]

end Scale

/-! ### A pattern is the rounding of its own value -/

/-- A magnitude below infinity's, as `u` last places of weight `2^(p - 149)`: the form that `f32Value_f32Signed` reads. -/
theorem exists_units {magnitude : Nat} (h : magnitude < 255 * 2 ^ 23) :
    ∃ p u, p < 254 ∧ u < 2 ^ 24 ∧ (2 ^ 23 ≤ u ∨ p = 0) ∧ magnitude = p * 2 ^ 23 + u := by
  by_cases hsub : magnitude < 2 ^ 23
  · exact ⟨0, magnitude, by omega, by omega, .inr rfl, by omega⟩
  · exact ⟨magnitude / 2 ^ 23 - 1, magnitude % 2 ^ 23 + 2 ^ 23, by omega, by omega, .inl (by omega), by omega⟩

theorem f32Neg_f32Neg (x : F32) : f32Neg (f32Neg x) = x := by
  rw [f32Neg, f32Neg, BitVec.xor_assoc, BitVec.xor_self, BitVec.xor_zero]

theorem f32Signed_false_toNat (x : F32) : f32Signed false x.toNat = x := by
  simp [f32Signed]

theorem toNat_lt_of_f32Sign {x : F32} (h : f32Sign x = false) : x.toNat < 2 ^ 31 := by
  have hmsb : x.msb = false := (BitVec.msb_eq_getLsbD_last x).trans h
  have hlt : 2 * x.toNat < 2 ^ 32 := BitVec.msb_eq_false_iff_two_mul_lt.1 hmsb
  omega

/-- Every pattern is a magnitude under its sign. -/
theorem eq_f32Signed (x : F32) : ∃ neg magnitude, magnitude < 2 ^ 31 ∧ x = f32Signed neg magnitude := by
  cases hsign : f32Sign x with
  | false => exact ⟨false, x.toNat, toNat_lt_of_f32Sign hsign, (f32Signed_false_toNat x).symm⟩
  | true =>
    have hneg : f32Sign (f32Neg x) = false := by rw [f32Sign_f32Neg, hsign]; rfl
    refine ⟨true, (f32Neg x).toNat, toNat_lt_of_f32Sign hneg, ?_⟩
    rw [← Bool.not_false, f32Signed_not, f32Signed_false_toNat, f32Neg_f32Neg]

/-- A finite pattern is a magnitude below infinity's under its sign. -/
theorem exists_f32Signed_of_finite {x : F32} (hx : f32Exponent x ≠ 255) :
    ∃ neg magnitude, magnitude < 255 * 2 ^ 23 ∧ x = f32Signed neg magnitude := by
  obtain ⟨neg, magnitude, hlt, rfl⟩ := eq_f32Signed x
  rw [f32Exponent_f32Signed neg hlt] at hx
  exact ⟨neg, magnitude, by omega, rfl⟩

/-- A number that binary32 holds is rounded to its pattern. -/
theorem roundF32_of_units (neg : Bool) {p u : Nat} (hp : p < 254) (hpos : 0 < u) (hu : u < 2 ^ 24)
    (hlead : 2 ^ 23 ≤ u ∨ p = 0) : roundF32 neg u ((p : Int) - 149) = f32Signed neg (p * 2 ^ 23 + u) := by
  have hlog : u.log2 ≤ 23 := Nat.le_of_lt_succ ((Nat.log2_lt hpos.ne').2 hu)
  have hlead' : u.log2 = 23 ∨ p = 0 := hlead.imp_left fun h => hlog.antisymm ((Nat.le_log2 hpos.ne').2 h)
  have hplace : lastPlace u ((p : Int) - 149) = (p : Int) - 149 := by
    rw [lastPlace]
    omega
  have hunits : roundUnits u ((p : Int) - 149) = u := by
    rw [roundUnits_of_lastPlace_le hplace.le, hplace, Int.sub_self]
    exact Nat.mul_one u
  have hmagnitude : roundMagnitude u ((p : Int) - 149) = p * 2 ^ 23 + u := by
    rw [roundMagnitude, hplace, hunits, Nat.shiftLeft_eq]
    omega
  rw [roundF32, if_neg hpos.ne', hmagnitude]

/-! ### Sums and quotients of finite numbers -/

theorem signedNat_add (neg : Bool) (a b : Nat) : signedNat neg (a + b) = signedNat neg a + signedNat neg b := by
  cases neg
  · exact Nat.cast_add a b
  · simp only [signedNat, if_true]
    omega

theorem natAbs_signedNat (neg : Bool) (k : Nat) : (signedNat neg k).natAbs = k := by
  cases neg
  · exact Int.natAbs_natCast k
  · exact (Int.natAbs_neg k).trans (Int.natAbs_natCast k)

/-- The sign of an exact sum that is not zero. -/
theorem sign_signedNat (neg : Bool) {k : Nat} (hpos : 0 < k) {zeroSign : Bool} :
    (if signedNat neg k = 0 then zeroSign else decide (signedNat neg k < 0)) = neg := by
  cases neg <;> simp only [signedNat, if_true, Bool.false_eq_true, if_false]
  · rw [if_neg (by omega), decide_eq_false (by omega)]
  · rw [if_neg (by omega), decide_eq_true (by omega)]

section Finite
variable {x y : F32} {na nb : Bool} {ma mb : Nat} {ea eb : Int} (hx : f32Value x = .fin na ma ea)
  (hy : f32Value y = .fin nb mb eb)
include hx hy

theorem f32Add_of_finite : f32Add x y = addFinite na ma ea nb mb eb := by
  rw [f32Add, hx, hy]

theorem f32Div_of_finite (hmb : mb ≠ 0) :
    f32Div x y = roundF32 (na ^^ nb) (quotientBits ma mb) (ea - eb - 51) := by
  rw [f32Div, hx, hy]
  exact if_neg hmb

end Finite

/-! ### The average of one sample -/

theorem f32Value_zeroVolt : f32Value zeroVolt = .fin false 0 (-149) := by decide

theorem f32Value_one : f32Value (f32OfInt 1) = .fin false (2 ^ 23) (-23) := by decide

section One
variable {x : F32} {neg : Bool} {m : Nat} {e : Int}

/-- Adding to `+0.0` rounds the number once more. -/
theorem f32Add_zeroVolt (hx : f32Value x = .fin neg m e) (hpos : 0 < m) (he : -149 ≤ e) :
    f32Add zeroVolt x = roundF32 neg m e := by
  have hmul : 0 < m * 2 ^ (e + 149).toNat := Nat.mul_pos hpos (Nat.two_pow_pos _)
  have hunits : (-149 : Int) = e - (e + 149).toNat := by omega
  have hsum : addFinite false 0 (-149) neg m e = roundF32 neg (m * 2 ^ (e + 149).toNat) (-149) := by
    have hzero : signedNat false 0 = 0 := rfl
    rw [addFinite, min_eq_left he, Nat.zero_shiftLeft, Nat.shiftLeft_eq, sub_neg_eq_add, hzero, zero_add,
      natAbs_signedNat, sign_signedNat neg hmul]
  calc f32Add zeroVolt x
      = addFinite false 0 (-149) neg m e := f32Add_of_finite f32Value_zeroVolt hx
    _ = roundF32 neg (m * 2 ^ (e + 149).toNat) (e - (e + 149).toNat) := by rw [hsum, ← hunits]
    _ = roundF32 neg m e := roundF32_mul_two_pow hpos e _ neg

theorem quotientBits_two_pow_23 (m : Nat) : quotientBits m (2 ^ 23) = m * 2 ^ 28 := by
  have hsplit : m <<< 50 = m * 2 ^ 27 * 2 ^ 23 := by rw [Nat.shiftLeft_eq, Nat.mul_assoc]; rfl
  rw [quotientBits, hsplit, Nat.mul_div_cancel _ (by decide), Nat.mul_mod_left, if_pos rfl]
  omega

/-- Dividing by `1.0` rounds the number once more. -/
theorem f32Div_one (hx : f32Value x = .fin neg m e) (hpos : 0 < m) : f32Div x (f32OfInt 1) = roundF32 neg m e := by
  have hunits : e - -23 - 51 = e - (28 : Nat) := by omega
  calc f32Div x (f32OfInt 1)
      = roundF32 (neg ^^ false) (quotientBits m (2 ^ 23)) (e - -23 - 51) :=
        f32Div_of_finite hx f32Value_one (by decide)
    _ = roundF32 neg (m * 2 ^ 28) (e - (28 : Nat)) := by rw [Bool.xor_false, quotientBits_two_pow_23, hunits]
    _ = roundF32 neg m e := roundF32_mul_two_pow hpos e 28 neg

end One

/-- Settles O43: both operations round a number that binary32 holds. -/
theorem averageOfOneIsSample : Obligations.AverageOfOneIsSample := by
  intro x hfinite hne
  obtain ⟨neg, magnitude, hlt, rfl⟩ := exists_f32Signed_of_finite hfinite
  obtain ⟨p, u, hp, hu, hlead, rfl⟩ := exists_units hlt
  rcases Nat.eq_zero_or_pos u with rfl | hpos
  · obtain rfl : p = 0 := hlead.resolve_left (by decide)
    cases neg
    · decide
    · exact absurd rfl hne
  have hvalue := f32Value_f32Signed neg hp hu hlead
  have hround := roundF32_of_units neg hp hpos hu hlead
  rw [f32Add_zeroVolt hvalue hpos (by omega), hround, f32Div_one hvalue hpos, hround]

/-! ### The average of failed samples -/

/-- Two numbers of one sign add their magnitudes. -/
theorem addFinite_same_sign (neg : Bool) (ma mb : Nat) (ea eb : Int) :
    addFinite neg ma ea neg mb eb =
      roundF32 neg (ma <<< (ea - min ea eb).toNat + mb <<< (eb - min ea eb).toNat) (min ea eb) := by
  rw [addFinite, ← signedNat_add, natAbs_signedNat]
  generalize ma <<< (ea - min ea eb).toNat + mb <<< (eb - min ea eb).toNat = k
  rcases Nat.eq_zero_or_pos k with rfl | hpos
  · cases neg <;> rfl
  · rw [sign_signedNat neg hpos]

theorem f32Value_sentinel : f32Value sentinel = .fin true (2 ^ 23) (-23) := by decide

/-- A number divided by itself is `1.0`. -/
theorem f32Div_self {x : F32} {neg : Bool} {m : Nat} {e : Int} (hx : f32Value x = .fin neg m e) (hpos : 0 < m) :
    f32Div x x = 0x3F800000#32 := by
  have hbits : quotientBits m m = 2 ^ 51 := by
    rw [quotientBits, Nat.shiftLeft_eq, Nat.mul_div_cancel_left _ hpos, Nat.mul_mod_right, if_pos rfl]
    rfl
  rw [f32Div_of_finite hx hx hpos.ne', Bool.xor_self, hbits, Int.sub_self]
  decide

section Count
variable {n : Nat} (hpos : 0 < n)
include hpos

theorem f32OfInt_neg_natCast : f32OfInt (-n) = roundF32 true n 0 := by
  have hsign : -(n : Int) < 0 := by omega
  rw [f32OfInt, decide_eq_true hsign, Int.natAbs_neg, Int.natAbs_natCast]

variable (hlt : n < 2 ^ 24)
include hlt

theorem f32Value_natCast : f32Value (f32OfInt n) = .fin false (roundUnits n 0) (lastPlace n 0) := by
  have hplace : lastPlace n 0 ≤ 0 := lastPlace_le hlt (by decide)
  exact f32Value_roundF32 false hpos hplace (show lastPlace n 0 < 105 by omega)

theorem roundUnits_natCast_pos : 0 < roundUnits n 0 := by
  rw [roundUnits_of_lastPlace_le (lastPlace_le hlt (by decide))]
  exact Nat.mul_pos hpos (Nat.two_pow_pos _)

theorem f32Value_neg_natCast : f32Value (f32OfInt (-n)) = .fin true (roundUnits n 0) (lastPlace n 0) := by
  rw [f32OfInt_neg (by omega), f32Value_f32Neg, f32Value_natCast hpos hlt]
  rfl

/-- Both addends are whole numbers of the sentinel's last places, and the sum is rounded as `-(n + 1)` itself is. -/
theorem f32Add_sentinel : f32Add (f32OfInt (-n)) sentinel = f32OfInt (-(n + 1 : Nat)) := by
  have hplace : lastPlace n 0 ≤ 0 := lastPlace_le hlt (by decide)
  have hmin : min (lastPlace n 0) (-23) = 0 - (23 : Nat) := by
    rw [lastPlace]
    omega
  have hunits : roundUnits n 0 <<< (lastPlace n 0 - (0 - (23 : Nat))).toNat = n * 2 ^ 23 := by
    rw [roundUnits_of_lastPlace_le hplace, Nat.shiftLeft_eq, Nat.mul_assoc, ← Nat.pow_add]
    congr 2
    rw [lastPlace] at hplace ⊢
    omega
  calc f32Add (f32OfInt (-n)) sentinel
      = addFinite true (roundUnits n 0) (lastPlace n 0) true (2 ^ 23) (-23) :=
        f32Add_of_finite (f32Value_neg_natCast hpos hlt) f32Value_sentinel
    _ = roundF32 true (n * 2 ^ 23 + 2 ^ 23) (0 - (23 : Nat)) := by
        rw [addFinite_same_sign, hmin, hunits]
        rfl
    _ = roundF32 true (n + 1) 0 := by rw [← Nat.succ_mul, roundF32_mul_two_pow n.succ_pos]
    _ = f32OfInt (-(n + 1 : Nat)) := (f32OfInt_neg_natCast n.succ_pos).symm

end Count

/-- The sum of failed samples stays exact as long as the count has 24 bits (R178). -/
theorem sentinelSum_eq {n : Nat} (hlt : n ≤ 2 ^ 24) : sentinelSum n = f32OfInt (-n) := by
  induction n with
  | zero => rfl
  | succ n ih =>
    rw [sentinelSum, ih (by omega)]
    rcases Nat.eq_zero_or_pos n with rfl | hpos
    · decide
    · exact f32Add_sentinel hpos hlt

/-- Settles O44: the sum is `-n` at each `n`, and its quotient the negation of `n / n`. -/
theorem allFailedAverageIsSentinel : Obligations.AllFailedAverageIsSentinel := by
  intro n hpos hle
  have hlt : n < 2 ^ 24 := by omega
  have hsum : sentinelSum n = f32OfInt (-(n : Int)) := sentinelSum_eq hlt.le
  have hvalue := f32Value_natCast hpos hlt
  have hfinite : f32Value (f32OfInt n) ≠ .nan := hvalue ▸ nofun
  have hunits : 0 < roundUnits n 0 := roundUnits_natCast_pos hpos hlt
  have hquotient : f32Div (sentinelSum n) (f32OfInt n) = f32Neg 0x3F800000#32 := by
    rw [hsum, f32OfInt_neg (by omega), f32Div_f32Neg hfinite hvalue hunits.ne', f32Div_self hvalue hunits]
  exact ⟨hsum, hquotient⟩

end Sys2Proof.Numbers
end

section
/-! The last two phases of a composite operation (`42_acquisition.md` R190, R191), in the words of the statements. -/

namespace Sys2Proof.Sequencer
open Sys2Proof Sys2Proof.Machine Sys2Proof.Config Sys2Proof.Statements

/-- Settles O29: the stop frame, and then the sentinel as the sample. -/
theorem timeoutPhaseStep : Obligations.TimeoutPhaseStep := by
  intro i q s hq hrun hph
  rw [exec_at_giveUp hq hrun hph, endOfSample_eq_sampleEnd, stopPhase, memWrite_eq_afterWrite]
  rfl

/-- Settles O30: the average of the accumulator, and then the end of the channel. -/
theorem finishPhaseStep : Obligations.FinishPhaseStep := by
  intro i q s hq havg hrun hph
  rw [exec_at_finish hq hrun havg hph, endOfChannel_eq_channelEnd]
  rfl

end Sys2Proof.Sequencer
end

section
/-! The samples of a wait under a line that reads high and then low, and ACQ1 from its acceptance to its completion
(`42_acquisition.md` R171, R172, R190). -/

namespace Sys2Proof.Sequencer
open Sys2Proof Sys2Proof.Machine Sys2Proof.Config Sys2Proof.Safety Sys2Proof.Statements

/-! ### The two samples of a wait -/

section Samples
variable {i : Instr} {q : Acq} {s : State} (hq : compositeOf i = some q) (hrun : Running i s) (hph : s.ph = 2)
include hq hrun hph

/-- A high sample, short of the bound, leaves the wait open. -/
theorem exec_at_wait_high (hhigh : s.env.nextLevel = .high) (hopen : tReady cfg ≠ some (s.p + 1)) :
    exec i s = .next (pollSample s) := by
  rw [exec_at_wait hq hrun hph, pollStep_of_open (goto 3) (goto 5) (by simp [hhigh]) hopen]

/-- A high sample at the bound gives the wait up. -/
theorem exec_at_wait_bound (hhigh : s.env.nextLevel = .high) (hbound : tReady cfg = some (s.p + 1)) :
    exec i s = .next (goto 5 (flagTimeout (pollSample s))) := by
  rw [exec_at_wait hq hrun hph, pollStep_of_bound (goto 3) (goto 5) (by simp [hhigh]) hbound]

/-- A low sample after a high one satisfies the wait under either sense. -/
theorem exec_at_wait_low (hlow : s.env.nextLevel = .low) (hseen : s.seenhi = true) :
    exec i s = .next (goto 3 (pollSample s)) := by
  rw [exec_at_wait hq hrun hph, pollStep_of_sampleReady (goto 3) (goto 5) ⟨hlow, .inr hseen⟩]

end Samples

/-! ### Micro-steps of the block -/

theorem run_succ (M : Host.Core) {s t : M.State} (h : M.step s = .next t) (k : Nat) : M.run (k + 1) s = M.run k t := by
  rw [Host.Core.run, h]

/-- `k` phases of the operation `i`, each performed while the block executes it. -/
inductive Phases (i : Instr) : Nat → State → State → Prop
  | none (s : State) : Phases i 0 s s
  | cons {k : Nat} {s t u : State} (hrun : Running i s) (hexec : exec i s = .next t) (rest : Phases i k t u) :
      Phases i (k + 1) s u

theorem Phases.run_eq {i : Instr} {k : Nat} {s t : State} (hlatch : isLatched i = true) (h : Phases i k s t) :
    Host.Core.run Sys2Proof.core k s = .next t := by
  induction h with
  | none => rfl
  | cons hrun hexec _ ih => exact (run_succ Sys2Proof.core ((step_of_running hlatch hrun).trans hexec) _).trans ih

theorem Phases.reaches {i : Instr} {k : Nat} {s t : State} (h : Phases i k s t) : steps (exec i) k s = .next t := by
  induction h with
  | none => rfl
  | cons _ hexec _ ih => rw [steps_succ hexec, ih]

/-! ### One cycle -/

/-- The conversion is started and the wait entered. -/
def started (s : State) : State := goto 2 (enterWait (startPhase cfg s.rate s))

/-- The sample of a cycle whose wait is satisfied in `s`: the stop frame and the data read. -/
def sampled (s : State) : State := readVoltPhase cfg (goto 4 (stopPhase cfg (goto 3 s)))

/-- The sample of a cycle whose wait gives up in `s`: the stop frame alone (R190). -/
def givenUp (s : State) : State := takeSentinel (stopPhase cfg (goto 5 (flagTimeout s)))

section Sample
variable {s : State} {rs : List ReadAnswer}

theorem sampled_answered {r0 r1 r2 r3 : Byte} (h : s.env.reads = .bytes r0 r1 r2 r3 :: rs) :
    (sampled s).rdata = r0 ++ r1 ++ r2 ++ r3 ∧ (sampled s).v = cfg.voltOfRaw (r1 ++ r2 ++ r3).toInt ∧
      (sampled s).vok = true ∧ (sampled s).xok = true := by
  have hanswer : (goto 4 (stopPhase cfg (goto 3 s))).env.nextRead = .bytes r0 r1 r2 r3 := by
    simp [Env.nextRead, Env.afterWrite, h]
  rw [sampled, readVoltPhase_answered hanswer]
  exact ⟨rfl, rfl, rfl, rfl⟩

theorem sampled_failed (h : s.env.reads = .none :: rs) :
    (sampled s).v = sentinel ∧ (sampled s).vok = false ∧ (sampled s).xok = false ∧ (sampled s).st.xfail = true := by
  have hanswer : (goto 4 (stopPhase cfg (goto 3 s))).env.nextRead = .none := by
    simp [Env.nextRead, Env.afterWrite, h]
  rw [sampled, readVoltPhase_failed hanswer]
  exact ⟨rfl, rfl, rfl, rfl⟩

end Sample

theorem nextLevel_of_ready {e : Env} {l : Level} {ls : List Level} (h : e.ready = l :: ls) : e.nextLevel = l := by
  rw [Env.nextLevel, h]
  rfl

section Cycle
variable {i : Instr} {q : Acq} {s : State} {ls : List Level} (hq : compositeOf i = some q) (hrun : Running i s)
include hrun

theorem running_started : Running i (started s) := by
  unfold started
  exact SameSample.running {} hrun

include hq

theorem phases_sampled : Phases i 2 (goto 3 s) (endOfSample q (sampled s)) := by
  have hstop : Running i (goto 3 s) := SameSample.running {} hrun
  have hread : Running i (goto 4 (stopPhase cfg (goto 3 s))) := SameSample.running {} hstop
  exact .cons hstop (exec_at_stop hq hstop rfl) (.cons hread (exec_at_read hq hread rfl) (.none _))

theorem phases_givenUp : Phases i 1 (goto 5 (flagTimeout s)) (endOfSample q (givenUp s)) := by
  have hgiveUp : Running i (goto 5 (flagTimeout s)) := SameSample.running {} hrun
  exact .cons hgiveUp (exec_at_giveUp hq hgiveUp rfl) (.none _)

/-- A cycle whose wait reads high and then low, the bound not being 1. -/
theorem cycle_of_high_low (hph : s.ph = 1) (hready : s.env.ready = .high :: .low :: ls) (hne : tReady cfg ≠ some 1) :
    Phases i 5 s (endOfSample q (sampled (pollSample (pollSample (started s))))) := by
  have hhigh : (started s).env.nextLevel = .high := nextLevel_of_ready hready
  have hlow : (pollSample (started s)).env.nextLevel = .low := nextLevel_of_ready (congrArg List.tail hready)
  have hseen : (pollSample (started s)).seenhi = true := by
    rw [pollSample_seenhi, hhigh]
    exact Bool.or_true _
  have hfirst : Running i (started s) := running_started hrun
  have hsecond : Running i (pollSample (started s)) := SameSample.running {} hfirst
  have hsatisfied : Running i (pollSample (pollSample (started s))) := SameSample.running {} hsecond
  exact .cons hrun (exec_at_start hq hrun hph) <| .cons hfirst (exec_at_wait_high hq hfirst rfl hhigh hne) <|
    .cons hsecond (exec_at_wait_low hq hsecond rfl hlow hseen) (phases_sampled hq hsatisfied)

/-- A cycle whose wait reads high, the bound being 1. -/
theorem cycle_of_high (hph : s.ph = 1) (hready : s.env.ready = .high :: ls) (hone : tReady cfg = some 1) :
    Phases i 3 s (endOfSample q (givenUp (pollSample (started s)))) := by
  have hhigh : (started s).env.nextLevel = .high := nextLevel_of_ready hready
  have hwait : Running i (started s) := running_started hrun
  have hgiveUp : Running i (pollSample (started s)) := SameSample.running {} hwait
  exact .cons hrun (exec_at_start hq hrun hph) <|
    .cons hwait (exec_at_wait_bound hq hwait rfl hhigh hone) (phases_givenUp hq hgiveUp)

end Cycle

/-! ### ACQ1 -/

/-- The main context's last word has left the port, and the timer context presents none. -/
def takeLast (s : State) : State := { s with owner := .main, port := { main := [], timer := [] } }

/-- ACQ1 accepted and its channel selected. -/
def acq1Opened (sel : BitVec 5) (s : State) : State :=
  goto 1 (selectPhase cfg sel (latchCommand (.acq1 sel) (takeLast s)))

section Acq1
variable {s : State} {w : CommandWord} {sel : BitVec 5}

theorem wellFormed_of_decode {i : Instr} (hdecode : decode w = .ok i) : i.wellFormed = true := by
  obtain ⟨hw, -⟩ := Encoding.encodeOfDecode w i hdecode
  exact hw

theorem running_acq1Opened (hdecode : decode w = .ok (.acq1 sel)) : Running (.acq1 sel) (acq1Opened sel s) :=
  ⟨wellFormed_of_decode hdecode, rfl, rfl⟩

theorem step_acq1 (hidle : s.busy = false) (hxfer : s.xfer = none) (hmain : s.port.main = [w])
    (htimer : s.port.timer = []) (hdecode : decode w = .ok (.acq1 sel)) :
    step s = .next (latchCommand (.acq1 sel) (takeLast s)) := by
  have hpresented : Presented .main w s (takeLast s) := ⟨[], hmain, .inl ⟨htimer, rfl⟩⟩
  have hidle' : (takeLast s).busy = false := hidle
  rw [stepRunsDecodedCommand .main w (.acq1 sel) s (takeLast s) hidle hxfer hpresented hdecode,
    exec_of_idle rfl (wellFormed_of_decode hdecode) hidle', entry_of_ne (i := .acq1 sel) nofun, id]

theorem exec_acq1_select (hrun : Running (.acq1 sel) s) (hph : s.ph = 0) :
    exec (.acq1 sel) s = .next (goto 1 (selectPhase cfg sel s)) := by
  have hsingle (t : State) : clearAverage (acq1Of sel) t = t := rfl
  have hselector : acqSelector (acq1Of sel) s = sel := rfl
  rw [exec_at_select (q := acq1Of sel) rfl hrun hph, hsingle, hselector]

/-- The run of ACQ1: acceptance, the select frame, and one cycle, whose sample is the result (R171). -/
theorem run_acq1 {k : Nat} {x : State} (haccept : step s = .next (latchCommand (.acq1 sel) (takeLast s)))
    (hw : (Instr.acq1 sel).wellFormed = true)
    (hcycle : Phases (.acq1 sel) k (acq1Opened sel s) (endOfSample (acq1Of sel) x)) :
    Host.Core.run Sys2Proof.core (k + 1 + 1) s = .next (complete x) := by
  have hrun : Running (.acq1 sel) (latchCommand (.acq1 sel) (takeLast s)) := ⟨hw, rfl, rfl⟩
  have hphases : Phases (.acq1 sel) (k + 1) (latchCommand (.acq1 sel) (takeLast s)) (complete x) :=
    .cons hrun (exec_acq1_select hrun rfl) hcycle
  exact (run_succ Sys2Proof.core haccept (k + 1)).trans (hphases.run_eq rfl)

end Acq1

/-- Settles O32: where `T_READY` is 1 the first ready sample, high, gives the wait up; under any other bound the low one
satisfies it, and the data read decides the sample. -/
theorem acq1RunsToCompletion : Obligations.Acq1RunsToCompletion := by
  intro s w sel ans rs ls hidle hxfer hmain htimer hdecode hreads hready
  have hrun : Running (.acq1 sel) (acq1Opened sel s) := running_acq1Opened hdecode
  have haccept := step_acq1 hidle hxfer hmain htimer hdecode
  have hw := wellFormed_of_decode hdecode
  have hph : (acq1Opened sel s).ph = 1 := rfl
  have hopened : (acq1Opened sel s).env.ready = .high :: .low :: ls := hready
  by_cases hone : tReady cfg = some 1
  · have hcycle := cycle_of_high (q := acq1Of sel) rfl hrun hph hopened hone
    refine ⟨5, complete (givenUp (pollSample (started (acq1Opened sel s)))), by decide,
      run_acq1 haccept hw hcycle, rfl, ?_⟩
    simp [Over, givenUp, started, acq1Opened, takeLast, Status.noteFrame, Status.noteTimeout, hone]
  · have hcycle := cycle_of_high_low (q := acq1Of sel) rfl hrun hph hopened hone
    refine ⟨7, complete (sampled (pollSample (pollSample (started (acq1Opened sel s))))), by decide,
      run_acq1 haccept hw hcycle, rfl, rfl, ⟨rfl, rfl, rfl⟩, fun h => absurd h hone, fun _ =>
        ⟨rfl, ?answered, ?failed⟩⟩
    case answered =>
      rintro r0 r1 r2 r3 rfl
      exact sampled_answered hreads
    case failed =>
      rintro rfl
      exact sampled_failed hreads

end Sys2Proof.Sequencer
end

section
/-! ACQAVG and RDALLAVG where no data read is answered (`42_acquisition.md` R178, R184, R188, R190): each sample is the
sentinel, by a failed read or by a timeout, so that each channel's accumulator is exactly `-n`. -/

namespace Sys2Proof.Sequencer
open Sys2Proof Sys2Proof.Machine Sys2Proof.Config Sys2Proof.Statements

/-! ### What each draw takes from the scripts (`20_memory.md` R82) -/

section Draws
variable (e : Env)

@[simp] theorem env_afterWrite_reads : e.afterWrite.reads = e.reads := rfl
@[simp] theorem env_afterWrite_writes : e.afterWrite.writes = e.writes.tail := rfl
@[simp] theorem env_afterWrite_ready : e.afterWrite.ready = e.ready := rfl
@[simp] theorem env_afterRead_reads : e.afterRead.reads = e.reads.tail := rfl
@[simp] theorem env_afterRead_writes : e.afterRead.writes = e.writes := rfl
@[simp] theorem env_afterRead_ready : e.afterRead.ready = e.ready := rfl
@[simp] theorem env_afterPoll_reads : e.afterPoll.reads = e.reads := rfl
@[simp] theorem env_afterPoll_writes : e.afterPoll.writes = e.writes := rfl
@[simp] theorem env_afterPoll_ready : e.afterPoll.ready = e.ready.tail := rfl

end Draws

/-! ### What a cycle leaves -/

/-- `t` stands at the same sample of the same average as `s`, and no result of a channel has changed. -/
structure SameAverage (s t : State) : Prop extends SameSample s t where
  accs : t.accs = s.accs := by simp
  acc : t.acc = s.acc := by simp
  aok : t.aok = s.aok := by simp
  vb : t.vb = s.vb := by simp
  bok : t.bok = s.bok := by simp

/-- The next `m` data reads fail. -/
def FailingReads (m : Nat) (s : State) : Prop := List.replicate m ReadAnswer.none <+: s.env.reads

/-- A cycle without an answer has ended: its conversion is stopped, a read has failed unless `T_READY` is 1, and `m` later
reads will fail. -/
structure AfterFailure (m : Nat) (s : State) : Prop where
  conv : s.conv = false
  xfail : tReady cfg ≠ some 1 → s.st.xfail = true
  reads : FailingReads m s

/-- The sample taken in `x` is the sentinel. -/
structure FailedSample (m : Nat) (x : State) : Prop extends AfterFailure m x where
  v : x.v = sentinel
  vok : x.vok = false

theorem FailingReads.of_succ {m : Nat} {s : State} (h : FailingReads (m + 1) s) : FailingReads m s :=
  List.IsPrefix.trans ⟨[.none], List.replicate_succ'.symm⟩ h

theorem FailingReads.cons_of_succ {m : Nat} {s : State} (h : FailingReads (m + 1) s) :
    ∃ rs, s.env.reads = .none :: rs ∧ List.replicate m ReadAnswer.none <+: rs := by
  obtain ⟨rs, hrs⟩ := h
  exact ⟨List.replicate m .none ++ rs, hrs.symm.trans (by rw [List.replicate_succ, List.cons_append]), ⟨rs, rfl⟩⟩

theorem FailingReads.congr {m : Nat} {s t : State} (h : FailingReads m s) (hreads : t.env.reads = s.env.reads) :
    FailingReads m t := by
  rw [FailingReads, hreads]
  exact h

theorem AfterFailure.congr {m : Nat} {s t : State} (h : AfterFailure m s) (hconv : t.conv = s.conv) (hst : t.st = s.st)
    (henv : t.env = s.env) : AfterFailure m t where
  conv := hconv.trans h.conv
  xfail hne := hst ▸ h.xfail hne
  reads := h.reads.congr (congrArg Env.reads henv)

/-! ### One cycle -/

section Cycle
variable {i : Instr} {q : Acq} {s : State} {k m w r p : Nat}

@[simp] theorem started_env (s : State) : (started s).env = s.env.afterWrite := rfl

@[simp] theorem sampled_env (s : State) : (sampled s).env = s.env.afterWrite.afterRead := rfl

@[simp] theorem givenUp_env (s : State) : (givenUp s).env = s.env.afterWrite := rfl

theorem sampled_isFailed (hfail : FailingReads (m + 1) s) : FailedSample m (sampled s) := by
  obtain ⟨rs, hreads, hrest⟩ := hfail.cons_of_succ
  obtain ⟨hv, hvok, -, hxfail⟩ := sampled_failed hreads
  have hleft : (sampled s).env.reads = rs := by simp [hreads]
  exact ⟨⟨rfl, fun _ => hxfail, by rwa [FailingReads, hleft]⟩, hv, hvok⟩

theorem givenUp_isFailed (hone : tReady cfg = some 1) (hfail : FailingReads (m + 1) s) : FailedSample m (givenUp s) :=
  ⟨⟨rfl, fun hne => absurd hone hne, hfail.of_succ.congr (by simp)⟩, rfl, rfl⟩

/-- The phases of a cycle as a segment of the run. -/
theorem Phases.segment {x : State} (h : Phases i k s (endOfSample q x)) (hw : x.env.writes = s.env.writes.drop w)
    (hr : tReady cfg ≠ some 1 → x.env.reads = s.env.reads.drop r)
    (hp : tReady cfg ≠ some 1 → x.env.ready = s.env.ready.drop p) : Segment i w r p s (endOfSample q x) where
  reaches := ⟨k, h.reaches⟩
  writes := by rw [endOfSample_env, hw]
  reads hne := by rw [endOfSample_env, hr hne]
  ready hne := by rw [endOfSample_env, hp hne]

/-- Where the bound is 1 the only sample of a wait satisfies it or gives it up. -/
theorem cycle_of_tReady_one (hq : compositeOf i = some q) (hrun : Running i s) (hph : s.ph = 1)
    (hone : tReady cfg = some 1) :
    (∃ k, Phases i k s (endOfSample q (sampled (pollSample (started s))))) ∨
      ∃ k, Phases i k s (endOfSample q (givenUp (pollSample (started s)))) := by
  have hwait : Running i (started s) := running_started hrun
  have hpolled : Running i (pollSample (started s)) := SameSample.running {} hwait
  have hstart := exec_at_start hq hrun hph
  have hsample := exec_at_wait hq hwait rfl
  rcases pollStep_outcomes cfg (goto 3) (goto 5) (started s) with ⟨hopen, -⟩ | heq | ⟨-, heq⟩
  · exact absurd hone hopen
  · rw [heq] at hsample
    exact .inl ⟨_, .cons hrun hstart (.cons hwait hsample (phases_sampled hq hpolled))⟩
  · rw [heq] at hsample
    exact .inr ⟨_, .cons hrun hstart (.cons hwait hsample (phases_givenUp hq hpolled))⟩

theorem failed_cycle_ends (hq : compositeOf i = some q) (hrun : Running i s) (hph : s.ph = 1) (hscript : HighThenLow 1 s)
    (hfail : FailingReads (m + 1) s) :
    ∃ x, Segment i 2 1 2 s (endOfSample q x) ∧ SameAverage s x ∧ FailedSample m x := by
  have honce : FailingReads (m + 1) (pollSample (started s)) := hfail.congr (by simp)
  have htwice : FailingReads (m + 1) (pollSample (pollSample (started s))) := hfail.congr (by simp)
  by_cases hone : tReady cfg = some 1
  · rcases cycle_of_tReady_one hq hrun hph hone with ⟨k, hcycle⟩ | ⟨k, hcycle⟩
    · exact ⟨_, hcycle.segment (by simp [← List.drop_one]) (absurd hone) (absurd hone), by unfold sampled started; exact {},
        sampled_isFailed honce⟩
    · exact ⟨_, hcycle.segment (by simp [← List.drop_one]) (absurd hone) (absurd hone), by unfold givenUp started; exact {},
        givenUp_isFailed hone honce⟩
  · obtain ⟨ls, hls⟩ := hscript hone
    have hcycle := cycle_of_high_low hq hrun hph hls.symm hone
    exact ⟨_, hcycle.segment (by simp [← List.drop_one]) (by simp) (by simp [← List.drop_one]),
      by unfold sampled started; exact {}, sampled_isFailed htwice⟩

end Cycle

/-! ### The cycles of a channel -/

/-- The channel of `s` has summed `j` failed samples. -/
structure FailedSum (q : Acq) (j : Nat) (s : State) : Prop where
  sum : accumulator q s = sentinelSum j
  count : s.samples.toNat = j
  aok : j ≠ 0 → s.aok = false

/-- `t` works on the channel of `s`, and the results of the other channels have not changed. -/
structure OtherChannels (s t : State) : Prop where
  channel : t.k = s.k
  vb : t.vb = s.vb
  bok : t.bok = s.bok
  acc : ∀ j : Fin 6, j ≠ s.k → t.acc[j] = s.acc[j]

/-- The result of a channel none of whose samples was answered (R178). -/
structure FailedAverage (q : Acq) (s : State) : Prop where
  sum : accumulator q s = f32OfInt (-(q.n.toNat : Int))
  v : s.v = sentinel
  vok : s.vok = false

section Channel
variable {i : Instr} {q : Acq} {s t u x : State} {j m : Nat}

theorem OtherChannels.trans (hst : OtherChannels s t) (htu : OtherChannels t u) : OtherChannels s u where
  channel := htu.channel.trans hst.channel
  vb := htu.vb.trans hst.vb
  bok := htu.bok.trans hst.bok
  acc j hj := (htu.acc j (hst.channel ▸ hj)).trans (hst.acc j hj)

theorem SameAverage.accumulator_eq (h : SameAverage s x) : accumulator q x = accumulator q s := by
  simp only [accumulator, h.acc, h.accs, h.channel]

theorem accumulator_setAccumulator (q : Acq) (a : F32) (s : State) : accumulator q (setAccumulator q a s) = a := by
  cases hb : q.batch <;> simp [accumulator, hb]

theorem acc_setAccumulator_of_ne (q : Acq) (a : F32) {s : State} {c : Fin 6} (hc : c ≠ s.k) :
    (setAccumulator q a s).acc[c] = s.acc[c] := by
  have hne : s.k.val ≠ c.val := fun h => hc (Fin.ext h.symm)
  cases hb : q.batch <;> simp [hb, Vector.getElem_set_ne _ _ hne]

theorem accumulator_nextSample (q : Acq) (s : State) :
    accumulator q (nextSample q (accumulate q s)) = f32Add (accumulator q s) s.v :=
  accumulator_setAccumulator q (f32Add (accumulator q s) s.v) s

/-- A failed sample is one more sentinel in the channel's sum (R177, R178). -/
theorem FailedSum.next (hsum : FailedSum q j s) (hlt : j < q.n.toNat) (hsame : SameAverage s x) (hx : FailedSample m x) :
    FailedSum q (j + 1) (nextSample q (accumulate q x)) where
  sum := by rw [accumulator_nextSample, hsame.accumulator_eq, hsum.sum, hx.v, sentinelSum]
  count := by
    rw [nextSample_samples, accumulate_samples, hsame.samples, toNat_succ_of_lt (hsum.count ▸ hlt), hsum.count]
  aok _ := by rw [nextSample_aok, accumulate_aok, hx.vok, Bool.and_false]

theorem otherChannels_nextSample (hsame : SameAverage s x) : OtherChannels s (nextSample q (accumulate q x)) where
  channel := by simpa using hsame.channel
  vb := by simpa using hsame.vb
  bok := by simpa using hsame.bok
  acc c hc := by
    rw [nextSample_acc, accumulate_acc, acc_setAccumulator_of_ne q _ (hsame.channel ▸ hc), hsame.acc]

/-- The quotient of the sum by its count is the sentinel (R178). -/
theorem FailedSum.average (hsum : FailedSum q q.n.toNat s) (hpos : 0 < q.n.toNat) :
    FailedAverage q (takeAverage q s) := by
  obtain ⟨hexact, hquotient⟩ := Numbers.allFailedAverageIsSentinel q.n.toNat hpos (Nat.le_of_lt_succ q.n.isLt)
  refine ⟨hsum.sum.trans hexact, ?_, hsum.aok hpos.ne'⟩
  rw [takeAverage_v, hsum.sum, hquotient]

/-- A cycle whose sample fails: it is summed, and the start phase or the finish phase follows (R176). -/
theorem failed_average_cycle (hq : compositeOf i = some q) (havg : q.averaged = true) (hrun : Running i s)
    (hph : s.ph = 1) (hsum : FailedSum q j s) (hlt : j < q.n.toNat) (hscript : HighThenLow 1 s)
    (hfail : FailingReads (m + 1) s) :
    ∃ t, Segment i 2 1 2 s t ∧ Running i t ∧ OtherChannels s t ∧ FailedSum q (j + 1) t ∧ AfterFailure m t ∧
      t.ph = if j + 1 < q.n.toNat then 1 else 6 := by
  obtain ⟨x, hcycle, hsame, hx⟩ := failed_cycle_ends hq hrun hph hscript hfail
  have heq : endOfSample q x = nextSample q (accumulate q x) := if_pos havg
  have hnext : FailedSum q (j + 1) (nextSample q (accumulate q x)) := hsum.next hlt hsame hx
  refine ⟨_, heq ▸ hcycle, ?_, otherChannels_nextSample hsame, hnext, hx.congr ?_ ?_ ?_, ?_⟩
  · simpa [Running] using hsame.running hrun
  · simp
  · simp
  · simp
  · rw [nextSample_ph, ← hnext.count]
    rfl

/-- The cycles of a channel, by induction on those that are left after the next one. -/
theorem failed_average_ends (hq : compositeOf i = some q) (havg : q.averaged = true) (d : Nat) (hrun : Running i s)
    (hph : s.ph = 1) (hsum : FailedSum q j s) (hleft : j + (1 + d) = q.n.toNat) (hscript : HighThenLow (1 + d) s)
    (hfail : FailingReads (m + d + 1) s) :
    ∃ x, Segment i (2 * (1 + d)) (1 + d) (2 * (1 + d)) s (endOfChannel q x) ∧ Running i x ∧ OtherChannels s x ∧
      AfterFailure m x ∧ FailedAverage q x := by
  induction d generalizing s j with
  | zero =>
    obtain ⟨t, hcycle, hrun', hother, hsum', hafter, hph'⟩ :=
      failed_average_cycle hq havg hrun hph hsum (by omega) hscript hfail
    rw [if_neg (by omega)] at hph'
    have hfinish := Segment.ofSilent (exec_at_finish hq hrun' havg hph') (endOfChannel_env q _)
    have hcount : j + 1 = q.n.toNat := hleft
    rw [hcount] at hsum'
    exact ⟨takeAverage q t, hcycle.trans hfinish, hrun', ⟨hother.channel, hother.vb, hother.bok, hother.acc⟩,
      hafter.congr rfl rfl rfl, hsum'.average (by omega)⟩
  | succ d ih =>
    obtain ⟨t, hcycle, hrun', hother, hsum', hafter, hph'⟩ :=
      failed_average_cycle hq havg hrun hph hsum (by omega) hscript.take hfail
    rw [if_pos (by omega)] at hph'
    have hrest := hscript.after hcycle
    rw [Nat.add_comm d 1] at hrest
    obtain ⟨x, hend, hrunx, hotherx, hafterx, haverage⟩ := ih hrun' hph' hsum' (by omega) hrest hafter.reads
    refine ⟨x, ?_, hrunx, hother.trans hotherx, hafterx, haverage⟩
    convert hcycle.trans hend using 1 <;> omega

/-- The select phase clears the channel's sum (R177). -/
theorem failed_select_ends (hq : compositeOf i = some q) (havg : q.averaged = true) (hrun : Running i s) (hph : s.ph = 0)
    (hfail : FailingReads m s) :
    ∃ t, Segment i 1 0 0 s t ∧ Running i t ∧ t.ph = 1 ∧ OtherChannels s t ∧ FailedSum q 0 t ∧ FailingReads m t := by
  have hstep := exec_at_select hq hrun hph
  have hopen : clearAverage q (selectPhase cfg (acqSelector q s) s) =
      openAverage (setAccumulator q zeroVolt (selectPhase cfg (acqSelector q s) s)) := if_pos havg
  rw [hopen] at hstep
  refine ⟨_, .ofWrite hstep (by simp), ?_, rfl, ⟨?_, ?_, ?_, fun c hc => ?_⟩, ⟨?_, rfl, absurd rfl⟩,
    hfail.congr (by simp)⟩
  · simpa [Running] using hrun
  · simp
  · simp
  · simp
  · exact acc_setAccumulator_of_ne q zeroVolt hc
  · exact accumulator_setAccumulator q zeroVolt _

/-- A channel none of whose samples is answered: its select frame and its `n` cycles. -/
theorem failed_channel_ends (hq : compositeOf i = some q) (havg : q.averaged = true) (hrun : Running i s) (hph : s.ph = 0)
    (hscript : HighThenLow q.n.toNat s) (hfail : FailingReads (m + q.n.toNat) s) :
    ∃ x, Segment i (1 + 2 * q.n.toNat) q.n.toNat (2 * q.n.toNat) s (endOfChannel q x) ∧ Running i x ∧
      OtherChannels s x ∧ AfterFailure m x ∧ FailedAverage q x := by
  obtain ⟨t, hselect, hrun', hph', hother, hsum, hfail'⟩ := failed_select_ends hq havg hrun hph hfail
  have hscript' : HighThenLow q.n.toNat t := hscript.kept hselect
  obtain ⟨hw, -, -⟩ := hrun
  obtain ⟨d, hd⟩ : ∃ d, q.n.toNat = 1 + d := Nat.exists_eq_add_of_le (count_pos hq hw havg)
  have hleft : 0 + (1 + d) = q.n.toNat := by omega
  rw [hd] at hscript' ⊢
  rw [hd, Nat.add_comm 1 d] at hfail'
  obtain ⟨x, hcycles, hrunx, hotherx, hafter, haverage⟩ :=
    failed_average_ends hq havg d hrun' hph' hsum hleft hscript' hfail'
  refine ⟨x, ?_, hrunx, hother.trans hotherx, hafter, haverage⟩
  convert hselect.trans hcycles using 1 <;> omega

end Channel

/-! ### The whole run -/

/-- The stored results of channel `c` of a batch none of whose samples was answered (R178, R184). -/
structure FailedChannel (q : Acq) (s : State) (c : Fin 6) : Prop where
  acc : s.acc[c] = f32OfInt (-(q.n.toNat : Int))
  vb : s.vb[c] = sentinel
  bok : s.bok[c] = false

/-- The operation has completed with the sentinel. -/
structure FailedEnd (t : State) : Prop extends AfterFailure 0 t where
  idle : t.busy = false
  v : t.v = sentinel
  vok : t.vok = false

section Run
variable {i : Instr} {q : Acq} {s x : State}

/-- The channel that ends joins those that ended before it. -/
theorem failedChannel_storeChannel (hb : q.batch = true) (hother : OtherChannels s x) (hx : FailedAverage q x)
    (hdone : ∀ c : Fin 6, c < s.k → FailedChannel q s c) {c : Fin 6} (hc : c ≤ s.k) :
    FailedChannel q (storeChannel x) c := by
  rcases hc.eq_or_lt with heq | hlt
  · obtain rfl : c = x.k := heq.trans hother.channel.symm
    have hsum : x.acc[x.k] = f32OfInt (-(q.n.toNat : Int)) := by simpa [accumulator, hb] using hx.sum
    exact ⟨hsum, by simp [hx.v], by simp [hx.vok]⟩
  · have hne : x.k.val ≠ c.val := by
      rw [hother.channel]
      exact (Fin.lt_def.1 hlt).ne'
    obtain ⟨hacc, hvb, hbok⟩ := hdone c hlt
    refine ⟨(hother.acc c hlt.ne).trans hacc, ?_, ?_⟩
    · simpa [Vector.getElem_set_ne _ _ hne, hother.vb] using hvb
    · simpa [Vector.getElem_set_ne _ _ hne, hother.bok] using hbok

/-- The channels of a batch, by induction on those that are left after the next one (R188). -/
theorem failed_batch_ends (hq : compositeOf i = some q) (havg : q.averaged = true) (hb : q.batch = true) (d : Nat)
    (hrun : Running i s) (hph : s.ph = 0) (hleft : s.k.val + d = 5)
    (hdone : ∀ c : Fin 6, c < s.k → FailedChannel q s c) (hscript : HighThenLow ((d + 1) * q.n.toNat) s)
    (hfail : FailingReads ((d + 1) * q.n.toNat) s) :
    ∃ t, Segment i ((d + 1) * (1 + 2 * q.n.toNat)) ((d + 1) * q.n.toNat) (2 * ((d + 1) * q.n.toNat)) s t ∧
      FailedEnd t ∧ ∀ c, FailedChannel q t c := by
  induction d generalizing s with
  | zero =>
    rw [Nat.zero_add, Nat.one_mul] at hscript hfail
    obtain ⟨x, hchannel, -, hother, hafter, hx⟩ :=
      failed_channel_ends (m := 0) hq havg hrun hph hscript (by rwa [Nat.zero_add])
    have hlast : s.k.val = 5 := hleft
    rw [endOfChannel_last hb (by rw [hother.channel]; omega)] at hchannel
    refine ⟨complete (storeChannel x), ?_, ⟨hafter.congr rfl rfl rfl, rfl, hx.v, hx.vok⟩, fun c => ?_⟩
    · convert hchannel using 1 <;> ring
    · obtain ⟨hacc, hvb, hbok⟩ := failedChannel_storeChannel hb hother hx hdone (c := c) (Fin.le_def.2 (by omega))
      exact ⟨hacc, hvb, hbok⟩
  | succ d ih =>
    rw [Nat.succ_mul] at hscript hfail
    rw [Nat.add_comm] at hscript
    obtain ⟨x, hchannel, hrunx, hother, hafter, hx⟩ := failed_channel_ends hq havg hrun hph hscript.take hfail
    have hlt : x.k.val < 5 := by rw [hother.channel]; omega
    have hk : (x.k + 1).val = s.k.val + 1 := by rw [Fin.val_add_one_of_lt hlt, hother.channel]
    have hdone' (c : Fin 6) (hc : c < x.k + 1) : FailedChannel q (nextChannel (storeChannel x)) c := by
      have hle : c ≤ s.k := Fin.le_def.2 (by rw [Fin.lt_def, hk] at hc; omega)
      obtain ⟨hacc, hvb, hbok⟩ := failedChannel_storeChannel hb hother hx hdone hle
      exact ⟨hacc, hvb, hbok⟩
    rw [endOfChannel_next hb hlt] at hchannel
    have hafter' : AfterFailure ((d + 1) * q.n.toNat) (nextChannel (storeChannel x)) := hafter.congr rfl rfl rfl
    have hleft' : (nextChannel (storeChannel x)).k.val + d = 5 := by
      rw [nextChannel_k, storeChannel_k, hk]
      omega
    obtain ⟨t, hrest, hend⟩ :=
      ih (s := nextChannel (storeChannel x)) hrunx rfl hleft' hdone' (hscript.after hchannel) hafter'.reads
    refine ⟨t, ?_, hend⟩
    convert hchannel.trans hrest using 1 <;> ring

/-- The run of an averaged operation none of whose data reads is answered, from its first select phase. -/
theorem failed_composite_ends (hq : compositeOf i = some q) (havg : q.averaged = true) (hrun : Running i s)
    (hph : s.ph = 0) (hk : s.k = 0) (hscript : HighThenLow (cycles q) s) (hfail : FailingReads (cycles q) s) :
    ∃ t w, Segment i w (cycles q) (2 * cycles q) s t ∧ FailedEnd t ∧
      (q.batch = false → t.accs = f32OfInt (-(q.n.toNat : Int))) ∧ (q.batch = true → ∀ c, FailedChannel q t c) := by
  cases hb : q.batch with
  | false =>
    have hcycles : cycles q = q.n.toNat := by simp [cycles, hb, havg]
    rw [hcycles] at hscript hfail ⊢
    obtain ⟨x, hchannel, -, -, hafter, hx⟩ :=
      failed_channel_ends (m := 0) hq havg hrun hph hscript (by rwa [Nat.zero_add])
    rw [endOfChannel_single hb] at hchannel
    have hsum : x.accs = f32OfInt (-(q.n.toNat : Int)) := by simpa [accumulator, hb] using hx.sum
    exact ⟨complete x, _, hchannel, ⟨hafter.congr rfl rfl rfl, rfl, hx.v, hx.vok⟩, fun _ => hsum, nofun⟩
  | true =>
    have hcycles : cycles q = (5 + 1) * q.n.toNat := by simp [cycles, hb, havg]
    rw [hcycles] at hscript hfail ⊢
    have hdone (c : Fin 6) (hc : c < s.k) : FailedChannel q s c := by
      rw [hk] at hc
      exact absurd hc (Fin.not_lt_zero c)
    obtain ⟨t, hseg, hend, hchannels⟩ := failed_batch_ends hq havg hb 5 hrun hph (by rw [hk]; rfl) hdone hscript hfail
    exact ⟨t, _, hseg, hend, nofun, fun _ => hchannels⟩

end Run

/-- Settles O55: acceptance, then the operation's channels, each cycle of which takes the sentinel. -/
theorem allFailedRunIsSentinel : Obligations.AllFailedRunIsSentinel := by
  intro i q s rs ls hq havg hw hidle hreads hready
  have haccept : exec i s = .next (latchCommand i s) := by
    rw [exec_composite hq, runOperation_of_idle id _ hw hidle, id]
  have hscript : HighThenLow (cycles q) (latchCommand i s) := fun _ => ⟨ls, hready.symm⟩
  have hfail : FailingReads (cycles q) (latchCommand i s) := ⟨rs, hreads.symm⟩
  obtain ⟨t, w, hseg, hend, hsingle, hbatch⟩ := failed_composite_ends hq havg ⟨hw, rfl, rfl⟩ rfl rfl hscript hfail
  obtain ⟨k, hk⟩ := hseg.reaches
  refine ⟨k, t, (steps_succ haccept k).trans hk, hend.idle, hend.conv, hend.v, hend.vok, hsingle, fun hb c => ?_,
    fun hne => ⟨hend.xfail hne, ?_⟩⟩
  · obtain ⟨hacc, hvb, hbok⟩ := hbatch hb c
    exact ⟨hacc, hvb, hbok⟩
  · rw [hseg.reads hne, latchCommand_env, hreads, List.drop_left' (List.length_replicate ..)]

end Sys2Proof.Sequencer
end

section
/-! The configuration operations with a frame, SETMODE and CHKCOM (`43_config_system.md` R201, R202, R209): what each
notes after its frame depends on whether the transfer succeeded. -/

namespace Sys2Proof.Sequencer
open Sys2Proof Sys2Proof.Machine Sys2Proof.Config Sys2Proof.Statements

/-! ### The note after a frame -/

section Notes
variable {s : State}

/-- A frame that succeeded moves the mode shadow and makes it valid. -/
theorem noteMode_of_success (m : BitVec 2) (hok : s.xok = true) :
    noteMode m s = { s with mode := m, modev := true } := by
  simp [noteMode, hok]

/-- A frame that failed leaves the mode shadow as it was. -/
theorem noteMode_of_failure (m : BitVec 2) (hfailed : s.xok = false) : noteMode m s = s := by
  cases s
  cases hfailed
  simp [noteMode]

theorem noteIdentityCheck_of_match {c : Cfg} (hok : s.xok = true) (hmatch : s.rdata &&& prodidMask c = prodidExpect c) :
    noteIdentityCheck c s = { s with chkok := true } := by
  simp [noteIdentityCheck, Status.noteIdentity, identityMatches, hok, hmatch]

theorem noteIdentityCheck_of_mismatch {c : Cfg} (hok : s.xok = true)
    (hother : s.rdata &&& prodidMask c ≠ prodidExpect c) :
    noteIdentityCheck c s = { s with chkok := false, st := { s.st with idmismatch := true } } := by
  simp [noteIdentityCheck, Status.noteIdentity, identityMatches, hok, hother]

/-- The container of a failed read is not compared. -/
theorem noteIdentityCheck_of_failure (c : Cfg) (hfailed : s.xok = false) :
    noteIdentityCheck c s = { s with chkok := false } := by
  simp [noteIdentityCheck, Status.noteIdentity, hfailed]

end Notes

/-! ### The statements -/

/-- Settles O35: after the frame of SETMODE `XOK` is the device's answer, and the note of the mode goes by it. -/
theorem setmodeWrites : Obligations.SetmodeWrites := by
  intro m s hrun hph
  rw [exec_of_frameAct rfl hrun hph, complete_eq_ended, setmodePhase, memWrite_eq_afterWrite, modeCode]
  exact ⟨fun hok => by rw [noteMode_of_success _ hok], fun hfailed => by rw [noteMode_of_failure _ hfailed]⟩

/-- Settles O37: the product-id read sets `XOK` and `RDATA`, and the identity check goes by both. -/
theorem chkcomChecks : Obligations.ChkcomChecks := by
  intro s hrun hph
  rw [exec_of_frameAct rfl hrun hph, complete_eq_ended, chkcomPhase]
  refine ⟨fun r0 r1 r2 r3 hanswer => ?answered, fun hnone => ?failed⟩
  case answered =>
    rw [memRead_eq_afterRead hanswer]
    constructor
    · intro hmatch
      rw [noteIdentityCheck_of_match rfl hmatch]
    · intro hother
      rw [noteIdentityCheck_of_mismatch rfl hother]
      rfl
  case failed =>
    rw [memRead_eq_afterFailedRead hnone, noteIdentityCheck_of_failure cfg rfl]

end Sys2Proof.Sequencer
end

section
/-! Every step answers a next state (`60_exceptions.md` R220, R239, R241). Of the stops of log 12, `badSequencer` needs an `OP`
that no acceptance latches, `noSuchPhase` a phase that is none of the operation's, and `notAFrame` a frame asked of the
transport; the run invariant shuts out each. -/

namespace Sys2Proof.Sequencer
open Sys2Proof Sys2Proof.Machine Sys2Proof.Config Sys2Proof.Safety Sys2Proof.Statements

section Progress
variable {i : Instr} {q : Acq} {s : State}

/-! ### An idle block -/

theorem takeCommand_of_empty (hmain : s.port.main = []) (htimer : s.port.timer = []) : takeCommand s = none := by
  rcases takeCommand_cases s with ⟨-, -, hnone⟩ | ⟨_, _, hmain', -⟩ | ⟨_, _, -, htimer', -⟩ | ⟨_, _, _, _, hmain', -⟩
  · exact hnone
  · cases hmain.symm.trans hmain'
  · cases htimer.symm.trans htimer'
  · cases hmain.symm.trans hmain'

theorem step_of_nothing_presented (hidle : s.busy = false) (hxfer : s.xfer = none) (hnone : takeCommand s = none) :
    step s = .next s := by
  rcases step_idle s hidle with ⟨_, _, hx, -⟩ | ⟨_, _, hx, -⟩ | ⟨-, -, heq⟩ | ⟨_, _, _, -, htake, -⟩ |
    ⟨_, _, _, -, htake, -⟩
  · cases hxfer.symm.trans hx
  · cases hxfer.symm.trans hx
  · exact heq
  · cases hnone.symm.trans htake
  · cases hnone.symm.trans htake

theorem runs_runOperation_of_idle (accepted : State → State) (phase : State → StepOutcome) (hidle : s.busy = false) :
    Runs (runOperation i accepted phase s) := by
  rcases runOperation_cases i accepted phase s with ⟨hbusy, -⟩ | ⟨-, -, heq⟩ | ⟨-, -, heq⟩ | ⟨-, -, heq⟩
  · cases hidle.symm.trans hbusy
  · exact ⟨_, heq⟩
  · exact ⟨_, heq⟩
  · exact ⟨_, heq⟩

theorem runs_runImmediate (effect : State → State) : Runs (runImmediate i effect s) := by
  rcases runImmediate_cases i effect s with ⟨-, heq⟩ | ⟨-, -, heq⟩ | ⟨-, -, heq⟩ <;> exact ⟨_, heq⟩

/-- An idle block accepts, refuses or performs whatever it meets (R43). -/
theorem runs_exec_of_idle (i : Instr) (hidle : s.busy = false) : Runs (exec i s) := by
  cases hlatch : isLatched i with
  | true =>
    rcases latched_cases hlatch with ⟨act, hact⟩ | rfl | ⟨q, hq⟩
    · exact exec_frameAct hact s ▸ runs_runOperation_of_idle id _ hidle
    · exact exec_waitrdy s ▸ runs_runOperation_of_idle enterWait _ hidle
    · exact exec_composite hq s ▸ runs_runOperation_of_idle id _ hidle
  | false =>
    rcases unlatched_cases hlatch with ⟨r, rfl⟩ | rfl | ⟨a, rfl⟩ | ⟨a, v, rfl⟩
    · exact exec_setrate r s ▸ runs_runImmediate _
    · exact exec_reset s ▸ runs_runImmediate _
    · exact ⟨_, exec_frameRd a s⟩
    · exact ⟨_, exec_frameWr a v s⟩

/-! ### A block at work -/

theorem isLatched_of_phaseLegal (h : PhaseLegal i s) : isLatched i = true := by
  cases hlatch : isLatched i with
  | true => rfl
  | false => rcases unlatched_cases hlatch with ⟨r, rfl⟩ | rfl | ⟨a, rfl⟩ | ⟨a, v, rfl⟩ <;> exact h.elim

/-- A sample of WAITRDY at its one phase, whether or not it ends the wait (R150). -/
theorem exec_waitrdy_of_running (hrun : Running .waitrdy s) (hph : s.ph = 0) :
    exec .waitrdy s = .next (pollStep cfg complete complete s) := by
  rw [exec_waitrdy, runOperation_of_running enterWait _ hrun, waitrdyPhase, if_pos hph]

/-- The finish phase is reached by averaged operations alone (`42_acquisition.md` R191). -/
theorem averaged_of_finish (hphase : CompositePhase q s) (hph : s.ph = 6) : q.averaged = true := by
  rw [CompositePhase, hph] at hphase
  obtain ⟨-, -, -, -, havg, -⟩ := hphase
  exact havg

/-- Every row of the phase table answers a next state, the finish row where the operation averages. -/
theorem runs_acqPhase (hphase : CompositePhase q s) : Runs (acqPhase cfg q s) := by
  rcases acqPhase_cases cfg q s with ⟨-, heq⟩ | ⟨-, heq⟩ | ⟨-, heq⟩ | ⟨-, heq⟩ | ⟨-, heq⟩ | ⟨-, heq⟩ | ⟨-, -, heq⟩ |
    ⟨hph, hsingle, -⟩
  · exact ⟨_, heq⟩
  · exact ⟨_, heq⟩
  · exact ⟨_, heq⟩
  · exact ⟨_, heq⟩
  · exact ⟨_, heq⟩
  · exact ⟨_, heq⟩
  · exact ⟨_, heq⟩
  · cases hsingle.symm.trans (averaged_of_finish hphase hph)

/-- The operation in progress has a next phase wherever the invariant lets it stand. -/
theorem runs_exec_of_running (hrun : Running i s) (hlegal : PhaseLegal i s) : Runs (exec i s) := by
  rcases latched_cases (isLatched_of_phaseLegal hlegal) with ⟨act, hact⟩ | rfl | ⟨q, hq⟩
  · obtain ⟨hph, -⟩ := (phaseLegal_frameAct hact s).1 hlegal
    exact ⟨_, exec_of_frameAct hact hrun hph⟩
  · obtain ⟨⟨hph, -⟩, -⟩ := hlegal
    exact ⟨_, exec_waitrdy_of_running hrun hph⟩
  · exact exec_eq_acqPhase hq hrun ▸ runs_acqPhase ((phaseLegal_composite hq s).1 hlegal)

end Progress

/-! ### The statements -/

/-- Settles O51: a busy block stands at a phase of the operation it latched; an idle one is asked no frame, and a command,
a refused word or nothing each has its answer. -/
theorem invStateSteps : Obligations.InvStateSteps := by
  intro s hinv
  cases hbusy : s.busy with
  | true =>
    obtain ⟨i, hlatched, hlegal⟩ := hinv.running hbusy
    obtain ⟨hw, hop⟩ := latchedInstr_spec s.op i hlatched
    have hrun : Running i s := ⟨hw, hbusy, hop.symm⟩
    exact step_of_running (isLatched_of_phaseLegal hlegal) hrun ▸ runs_exec_of_running hrun hlegal
  | false =>
    rcases step_idle s hbusy with ⟨_, _, hx, -⟩ | ⟨_, _, hx, -⟩ | ⟨-, -, heq⟩ | ⟨w, u, i, -, htake, -, heq⟩ |
      ⟨w, u, e, -, -, -, heq⟩
    · cases hinv.noFrameAsked.symm.trans hx
    · cases hinv.noFrameAsked.symm.trans hx
    · exact ⟨s, heq⟩
    · obtain ⟨hrest, -⟩ := (resting_of_runInv hinv hbusy).takeCommand htake
      exact heq ▸ runs_exec_of_idle i hrest.idle
    · exact ⟨refuseCommand u, heq⟩

/-- Settles O10: no frame is asked and no word leaves the port, so the block waits. -/
theorem idleBlockHoldsState : Obligations.IdleBlockHoldsState := by
  intro s hidle hxfer hmain htimer
  exact step_of_nothing_presented hidle hxfer (takeCommand_of_empty hmain htimer)

end Sys2Proof.Sequencer
end

section
/-! RESET, which its acceptance performs whole and which reaches neither the device nor the rest of the block
(`70_reset_and_hazards.md` R253). -/

namespace Sys2Proof.Sequencer
open Sys2Proof Sys2Proof.Machine

/-- An idle block performs an operation without phases in the step that accepts it (`10_state.md` R43). -/
theorem runImmediate_of_idle {i : Instr} {s : State} (effect : State → State) (hw : i.wellFormed = true)
    (hidle : s.busy = false) : runImmediate i effect s = .next (emitDone (effect s)) := by
  rcases runImmediate_cases i effect s with ⟨hbusy, -⟩ | ⟨-, -, heq⟩ | ⟨-, hill, -⟩
  · cases hidle.symm.trans hbusy
  · exact heq
  · cases hw.symm.trans hill

/-- What RESET and the completion write is `ST` and the trace. -/
theorem emitDone_resetEffect_frame (s : State) :
    { emitDone (resetEffect s) with st := s.st, trace := s.trace } = s := rfl

/-- Settles O38: the answer is RESET's effect and the completion after it. -/
theorem resetReportsUnsupported : Obligations.ResetReportsUnsupported := by
  intro s hidle
  have hexec : exec .reset s = .next (emitDone (resetEffect s)) := by
    rw [exec_reset, runImmediate_of_idle resetEffect rfl hidle]
  exact ⟨_, hexec, resetEffect_st s, emitDone_trace (resetEffect s), emitDone_resetEffect_frame s⟩

end Sys2Proof.Sequencer
end

section
/-! The two ways a command is not accepted: an idle block refuses an operand out of range (`30_encoding.md` R99), and a busy
block leaves a command that is not its own waiting (`10_state.md` R43). -/

namespace Sys2Proof.Sequencer
open Sys2Proof Sys2Proof.Machine Sys2Proof.Statements

section NotAccepted
variable {i : Instr} {s : State}

/-! ### An operand out of range -/

theorem runOperation_of_illFormed (accepted : State → State) (phase : State → StepOutcome) (hill : i.wellFormed = false)
    (hidle : s.busy = false) : runOperation i accepted phase s = .next (refuseCommand s) := by
  rcases runOperation_cases i accepted phase s with ⟨hbusy, -⟩ | ⟨hbusy, -⟩ | ⟨-, hw, -⟩ | ⟨-, -, heq⟩
  · cases hidle.symm.trans hbusy
  · cases hidle.symm.trans hbusy
  · cases hill.symm.trans hw
  · exact heq

theorem runImmediate_of_illFormed (effect : State → State) (hill : i.wellFormed = false) (hidle : s.busy = false) :
    runImmediate i effect s = .next (refuseCommand s) := by
  rcases runImmediate_cases i effect s with ⟨hbusy, -⟩ | ⟨-, hw, -⟩ | ⟨-, -, heq⟩
  · cases hidle.symm.trans hbusy
  · cases hill.symm.trans hw
  · exact heq

/-- Of the instructions that acceptance does not latch, only SETRATE has an operand that can be out of range. -/
theorem exec_of_illFormed (hill : i.wellFormed = false) (hidle : s.busy = false) : exec i s = .next (refuseCommand s) := by
  cases hlatch : isLatched i with
  | true =>
    rcases latched_cases hlatch with ⟨act, hact⟩ | rfl | ⟨q, hq⟩
    · exact (exec_frameAct hact s).trans (runOperation_of_illFormed id _ hill hidle)
    · cases hill
    · exact (exec_composite hq s).trans (runOperation_of_illFormed id _ hill hidle)
  | false =>
    rcases unlatched_cases hlatch with ⟨r, rfl⟩ | rfl | ⟨a, rfl⟩ | ⟨a, v, rfl⟩
    · exact (exec_setrate r s).trans (runImmediate_of_illFormed _ hill hidle)
    · cases hill
    · cases hill
    · cases hill

/-- What a refusal writes is `ST` and the trace. -/
theorem refuseCommand_frame (s : State) : { refuseCommand s with st := s.st, trace := s.trace } = s := rfl

/-! ### A command that is not the operation in progress -/

theorem runOperation_of_other (accepted : State → State) (phase : State → StepOutcome) (hbusy : s.busy = true)
    (hother : s.op ≠ latchedOp i) : runOperation i accepted phase s = .next s := by
  rcases runOperation_cases i accepted phase s with ⟨-, -, hop, -⟩ | ⟨-, -, heq⟩ | ⟨hidle, -⟩ | ⟨hidle, -⟩
  · exact absurd hop hother
  · exact heq
  · cases hbusy.symm.trans hidle
  · cases hbusy.symm.trans hidle

theorem runImmediate_of_busy (effect : State → State) (hbusy : s.busy = true) : runImmediate i effect s = .next s := by
  rcases runImmediate_cases i effect s with ⟨-, heq⟩ | ⟨hidle, -⟩ | ⟨hidle, -⟩
  · exact heq
  · cases hbusy.symm.trans hidle
  · cases hbusy.symm.trans hidle

theorem exec_of_other_latched (hlatch : isLatched i = true) (hbusy : s.busy = true) (hother : s.op ≠ latchedOp i) :
    exec i s = .next s := by
  rcases latched_cases hlatch with ⟨act, hact⟩ | rfl | ⟨q, hq⟩
  · exact (exec_frameAct hact s).trans (runOperation_of_other id _ hbusy hother)
  · exact (exec_waitrdy s).trans (runOperation_of_other enterWait _ hbusy hother)
  · exact (exec_composite hq s).trans (runOperation_of_other id _ hbusy hother)

/-- The commands that acceptance performs whole are SETRATE and RESET (`10_state.md` R43). -/
theorem unlatched_command_cases (hcommand : IsCommand i) (hlatch : isLatched i = false) :
    (∃ r, i = .setrate r) ∨ i = .reset := by
  obtain ⟨w, hencode⟩ := hcommand
  rcases unlatched_cases hlatch with hsetrate | hreset | ⟨a, rfl⟩ | ⟨a, v, rfl⟩
  · exact .inl hsetrate
  · exact .inr hreset
  · cases hencode
  · cases hencode

end NotAccepted

/-! ### The statements -/

/-- Settles O13: the answer is the refusal, whose completion reports the registers as the refusal leaves them. -/
theorem illFormedOperandRefused : Obligations.IllFormedOperandRefused := by
  intro i s hill hidle
  exact ⟨refuseCommand s, exec_of_illFormed hill hidle, refuseCommand_st s, refuseCommand_trace s, refuseCommand_frame s⟩

/-- Settles O14: an operation with phases runs only if `OP` holds it, and SETRATE and RESET run only in an idle block. -/
theorem busyBlockAcceptsNothing : Obligations.BusyBlockAcceptsNothing := by
  intro i s hcommand hbusy hother
  cases hlatch : isLatched i with
  | true => exact exec_of_other_latched hlatch hbusy (hother hlatch)
  | false =>
    rcases unlatched_command_cases hcommand hlatch with ⟨r, rfl⟩ | rfl
    · exact (exec_setrate r s).trans (runImmediate_of_busy _ hbusy)
    · exact (exec_reset s).trans (runImmediate_of_busy _ hbusy)

end Sys2Proof.Sequencer
end
